-- ==== Sys2Proof/Word.lean ====
section
/-! DEFINITION. The word types of the block: u8, u16, u32, the 12-bit offset and the 64-bit stimulus word
(spec/00_scope.md R8, spec/30_encoding.md R102, R110). All values are unsigned. -/

namespace Sys2Proof

/-- u8: a byte of the line or of a buffer. -/
abbrev Byte := BitVec 8

/-- u16: the CRC register, a timeout, a timer's count. -/
abbrev Half := BitVec 16

/-- u32: what one host access moves. -/
abbrev Word := BitVec 32

/-- u12: a byte offset into the 4 KiB register window. -/
abbrev Offset := BitVec 12

/-- The 64-bit stimulus word of R110: every input of the block, written as one number. -/
abbrev StimulusWord := BitVec 64

end Sys2Proof
end

