-- ==== Sys2Proof/Config.lean ====
section
/-! DEFINITION. What a platform fixes around the block: the OPEN parameters of spec/00_scope.md R6 that no rule of the
block reads. Each is an opaque constant: no proof can see its value. The buffers'
capacities of 256 bytes stand in `Machine.Len` and `Machine.Memory.wf`. -/

namespace Sys2Proof.Config

/-- OPEN (R6, D4): the number of the 4 KiB page at which the platform puts the window. DESIGN CHOICE: log 10. -/
opaque blockPage : Nat

/-- `BLOCK_BASE`, R6: 4 KiB aligned. -/
def blockBase : Nat := 4096 * blockPage

/-- `BLOCK_IRQ`, R6: the platform's line that `irq` drives. -/
opaque blockIrq : Nat

/-- `TICK_PERIOD`, R6: the time between two TICK events, in nanoseconds; the model has no time. -/
opaque tickPeriod : Nat

/-- R341: what a transmit-ready event means on the line. -/
inductive TxReadyPoint where
  | lineIdle
  | bufferFree
deriving DecidableEq, Repr, Inhabited

/-- `TX_READY_POINT`, R6, R341: no rule of the block depends on it. -/
opaque txReadyPoint : TxReadyPoint

end Sys2Proof.Config
end

