-- ==== Sys2Proof/Syntax.lean ====
section
/-! DEFINITION. The operations of the block: one constructor of `Instr` for each row of spec/opcode_table.json, and
the registers of the host window (spec/10_state.md R41). -/

namespace Sys2Proof

/-- The registers of the host window, spec/10_state.md R41. `rxbuf i` and `txbuf i` are the 256 words of each buffer. -/
inductive Reg where
  | id | status | irqEn | cmd | t15 | t35 | rxLen | txLen | txCur | tmr15 | tmr35 | crcValue | crcData
  | statRxFrames | statTxFrames | statNoise | statOverflow | statDropped
  | rxbuf (i : Byte)
  | txbuf (i : Byte)
deriving DecidableEq, Repr

/-- One input of the block that is a row of spec/opcode_table.json: a command, a host read, a host write or an event.
`n` is a command's byte count (R105), `v` a write's 32-bit data, `i` a buffer index, `b` a received byte. -/
inductive Instr where
  -- commands (30_encoding.md R106)
  | cmdNop
  | cmdStart
  | cmdStop
  | cmdRelease
  | cmdTxStart (n : Nat)
  | cmdCrcInit
  | cmdCrcRx (n : Nat)
  | cmdCrcTx (n : Nat)
  | cmdClrStats
  -- reads of the named registers (44_host_access.md R261, 40_crc.md R144)
  | rdId
  | rdStatus
  | rdIrqEn
  | rdCmd
  | rdT15
  | rdT35
  | rdRxLen
  | rdTxLen
  | rdTxCur
  | rdTmr15
  | rdTmr35
  | rdCrcValue
  | rdCrcData
  | rdStatRxFrames
  | rdStatTxFrames
  | rdStatNoise
  | rdStatOverflow
  | rdStatDropped
  -- writes (44_host_access.md R264, R266, R268; 40_crc.md R144, R145)
  | wrStatus (v : Word)
  | wrIrqEn (v : Word)
  | wrT15 (v : Word)
  | wrT35 (v : Word)
  | wrCrcValue (v : Word)
  | wrCrcData (v : Word)
  -- the two buffers (44_host_access.md R270, R261, R267)
  | rdRxbuf (i : Byte)
  | rdTxbuf (i : Byte)
  | wrTxbuf (i : Byte) (v : Word)
  -- events (30_encoding.md R109)
  | rxByte (b : Byte)
  | tick
  | txReady
  | reset
deriving DecidableEq, Repr

end Sys2Proof
end

