-- ==== Sys2Proof/WellFormed.lean ====
section
/-! DEFINITION. Which terms of `Instr` stand for an input: a byte count must fit its 9-bit field
(spec/30_encoding.md R104, R105). Every other operand's type is its field's width already. -/

namespace Sys2Proof

/-- R105: `N` is a byte count, 0 to 511. -/
def Instr.wellFormed : Instr → Bool
  | .cmdTxStart n => decide (n < 512)
  | .cmdCrcRx n => decide (n < 512)
  | .cmdCrcTx n => decide (n < 512)
  | .cmdNop | .cmdStart | .cmdStop | .cmdRelease | .cmdCrcInit | .cmdClrStats => true
  | .rdId | .rdStatus | .rdIrqEn | .rdCmd | .rdT15 | .rdT35 | .rdRxLen | .rdTxLen | .rdTxCur | .rdTmr15
  | .rdTmr35 | .rdCrcValue | .rdCrcData | .rdStatRxFrames | .rdStatTxFrames | .rdStatNoise | .rdStatOverflow
  | .rdStatDropped | .rdRxbuf _ | .rdTxbuf _ => true
  | .wrStatus _ | .wrIrqEn _ | .wrT15 _ | .wrT35 _ | .wrCrcValue _ | .wrCrcData _ | .wrTxbuf _ _ => true
  | .rxByte _ | .tick | .txReady | .reset => true

end Sys2Proof
end

