-- ==== Sys2Proof/Decode.lean ====
section
/-! DEFINITION. The decoder of the 64-bit stimulus word and of the CMD word, total on every word, and the encoder
(spec/30_encoding.md R103 to R112, spec/10_state.md R41, spec/44_host_access.md R262, R263, R265, R269). -/

namespace Sys2Proof

/-! ### The fields of the stimulus word (R110) -/

def stimKind (w : StimulusWord) : BitVec 4 := w.extractLsb' 60 4
def stimReservedHigh (w : StimulusWord) : BitVec 2 := w.extractLsb' 58 2
def stimSize (w : StimulusWord) : BitVec 2 := w.extractLsb' 56 2
def stimReservedLow (w : StimulusWord) : BitVec 12 := w.extractLsb' 44 12
def stimOffset (w : StimulusWord) : Offset := w.extractLsb' 32 12
def stimData (w : StimulusWord) : Word := w.extractLsb' 0 32

/-- R110, `KIND`. 0x0 and 0x7 to 0xF are invalid. -/
inductive Kind where
  | hostRd | hostWr | rxByte | tick | txReady | reset
deriving DecidableEq, Repr

def Kind.ofBits (k : BitVec 4) : Option Kind :=
  match k with
  | 0x1#4 => some .hostRd
  | 0x2#4 => some .hostWr
  | 0x3#4 => some .rxByte
  | 0x4#4 => some .tick
  | 0x5#4 => some .txReady
  | 0x6#4 => some .reset
  | _ => none

def Kind.bits : Kind → BitVec 4
  | .hostRd => 0x1#4
  | .hostWr => 0x2#4
  | .rxByte => 0x3#4
  | .tick => 0x4#4
  | .txReady => 0x5#4
  | .reset => 0x6#4

/-- Why a 64-bit word is no stimulus (R111: "a model refuses the word"; a test-bench error). -/
inductive DecodeError where
  /-- `KIND` is 0x0 or 0x7 to 0xF. -/
  | invalidKind
  /-- A bit of 59:58 or 55:44 is set. -/
  | reservedNonzero
  /-- An event with a nonzero `SIZE`. -/
  | unusedSizeNonzero
  /-- An event with a nonzero `OFFSET`. -/
  | unusedOffsetNonzero
  /-- Nonzero `DATA` where the kind uses none, or `DATA[31:8]` nonzero for `RX_BYTE`. -/
  | unusedDataNonzero
deriving DecidableEq, Repr

/-- What a 64-bit word is: exactly one of the four classes of R111. -/
inductive Decoded where
  /-- A row of spec/opcode_table.json. -/
  | instr (i : Instr)
  /-- An access that answers `bus_error` (R262, R263): `write` tells a write from a read. -/
  | busError (write : Bool)
  /-- A CMD word that R265 sends to R269. -/
  | illegalCommand
  /-- No stimulus. -/
  | refused (e : DecodeError)
deriving DecidableEq, Repr

/-! ### The register map (10_state.md R41) -/

def Reg.offset : Reg → Offset
  | .id => 0x000#12
  | .status => 0x004#12
  | .irqEn => 0x008#12
  | .cmd => 0x00C#12
  | .t15 => 0x010#12
  | .t35 => 0x014#12
  | .rxLen => 0x018#12
  | .txLen => 0x01C#12
  | .txCur => 0x020#12
  | .tmr15 => 0x024#12
  | .tmr35 => 0x028#12
  | .crcValue => 0x02C#12
  | .crcData => 0x030#12
  | .statRxFrames => 0x040#12
  | .statTxFrames => 0x044#12
  | .statNoise => 0x048#12
  | .statOverflow => 0x04C#12
  | .statDropped => 0x050#12
  | .rxbuf i => 1#2 ++ i ++ 0#2
  | .txbuf i => 2#2 ++ i ++ 0#2

/-- The named registers below 0x400. An offset that is no multiple of 4 is none of them. -/
def namedRegAt (off : Offset) : Option Reg :=
  match off with
  | 0x000#12 => some .id
  | 0x004#12 => some .status
  | 0x008#12 => some .irqEn
  | 0x00C#12 => some .cmd
  | 0x010#12 => some .t15
  | 0x014#12 => some .t35
  | 0x018#12 => some .rxLen
  | 0x01C#12 => some .txLen
  | 0x020#12 => some .txCur
  | 0x024#12 => some .tmr15
  | 0x028#12 => some .tmr35
  | 0x02C#12 => some .crcValue
  | 0x030#12 => some .crcData
  | 0x040#12 => some .statRxFrames
  | 0x044#12 => some .statTxFrames
  | 0x048#12 => some .statNoise
  | 0x04C#12 => some .statOverflow
  | 0x050#12 => some .statDropped
  | _ => none

/-- R103: a 4-aligned offset decodes to `RXBUF[off[9:2]]` when `off[11:10] = 01`, to `TXBUF[off[9:2]]` when it is `10`,
and otherwise to the named register at that offset; any other offset is not mapped. -/
def regAt (off : Offset) : Option Reg :=
  if off.extractLsb' 0 2 = 0#2 then
    if off.extractLsb' 10 2 = 1#2 then some (.rxbuf (off.extractLsb' 2 8))
    else if off.extractLsb' 10 2 = 2#2 then some (.txbuf (off.extractLsb' 2 8))
    else namedRegAt off
  else none

/-- R103, R263: the register a host access selects: a 32-bit access (`size = 2`) at a mapped offset. -/
def legalReg (size : BitVec 2) (off : Offset) : Option Reg :=
  if size = 2#2 then regAt off else none

/-! ### The CMD word (R104 to R107) -/

def cmdOp (v : Word) : Byte := v.extractLsb' 0 8

/-- R105: `N = zext_9(CMD[24:16])`, a byte count. -/
def cmdN (v : Word) : Nat := (v.extractLsb' 16 9).toNat

/-- A command without operand needs `N = 0` (R105, R107). -/
def plainCommand (n : Nat) (i : Instr) : Option Instr :=
  if n = 0 then some i else none

/-- R265: decode one CMD word, or `none` where it is an illegal command (R107, R269). -/
def decodeCommand (v : Word) : Option Instr :=
  if v &&& 0xFE00FF00#32 ≠ 0#32 then none
  else
    match cmdOp v with
    | 0x00#8 => plainCommand (cmdN v) .cmdNop
    | 0x01#8 => plainCommand (cmdN v) .cmdStart
    | 0x02#8 => plainCommand (cmdN v) .cmdStop
    | 0x03#8 => plainCommand (cmdN v) .cmdRelease
    | 0x04#8 => some (.cmdTxStart (cmdN v))
    | 0x05#8 => plainCommand (cmdN v) .cmdCrcInit
    | 0x06#8 => some (.cmdCrcRx (cmdN v))
    | 0x07#8 => some (.cmdCrcTx (cmdN v))
    | 0x08#8 => plainCommand (cmdN v) .cmdClrStats
    | _ => none

/-! ### Host accesses (R103, R261, R262) -/

/-- R261, R270: every mapped register can be read. -/
def readInstr : Reg → Instr
  | .id => .rdId
  | .status => .rdStatus
  | .irqEn => .rdIrqEn
  | .cmd => .rdCmd
  | .t15 => .rdT15
  | .t35 => .rdT35
  | .rxLen => .rdRxLen
  | .txLen => .rdTxLen
  | .txCur => .rdTxCur
  | .tmr15 => .rdTmr15
  | .tmr35 => .rdTmr35
  | .crcValue => .rdCrcValue
  | .crcData => .rdCrcData
  | .statRxFrames => .rdStatRxFrames
  | .statTxFrames => .rdStatTxFrames
  | .statNoise => .rdStatNoise
  | .statOverflow => .rdStatOverflow
  | .statDropped => .rdStatDropped
  | .rxbuf i => .rdRxbuf i
  | .txbuf i => .rdTxbuf i

/-- R262, R264 to R268: what a legal 32-bit write of `v` to a mapped register is; read-only registers answer `bus_error`. -/
def writeDecoded (v : Word) : Reg → Decoded
  | .status => .instr (.wrStatus v)
  | .irqEn => .instr (.wrIrqEn v)
  | .cmd =>
    match decodeCommand v with
    | some i => .instr i
    | none => .illegalCommand
  | .t15 => .instr (.wrT15 v)
  | .t35 => .instr (.wrT35 v)
  | .crcValue => .instr (.wrCrcValue v)
  | .crcData => .instr (.wrCrcData v)
  | .txbuf i => .instr (.wrTxbuf i v)
  | .id | .rxLen | .txLen | .txCur | .tmr15 | .tmr35 => .busError true
  | .statRxFrames | .statTxFrames | .statNoise | .statOverflow | .statDropped => .busError true
  | .rxbuf _ => .busError true

def decodeRead (size : BitVec 2) (off : Offset) : Decoded :=
  match legalReg size off with
  | some r => .instr (readInstr r)
  | none => .busError false

def decodeWrite (size : BitVec 2) (off : Offset) (v : Word) : Decoded :=
  match legalReg size off with
  | some r => writeDecoded v r
  | none => .busError true

/-! ### The stimulus word (R110, R111) -/

/-- R110, "0 for events": `SIZE`, `OFFSET`, and the part of `DATA` an event does not use. -/
def eventFieldError (w : StimulusWord) (unusedData : Bool) : Option DecodeError :=
  if stimSize w ≠ 0#2 then some .unusedSizeNonzero
  else if stimOffset w ≠ 0#12 then some .unusedOffsetNonzero
  else if unusedData then some .unusedDataNonzero
  else none

def decodeEvent (w : StimulusWord) (unusedData : Bool) (i : Instr) : Decoded :=
  match eventFieldError w unusedData with
  | some e => .refused e
  | none => .instr i

/-- R111: decode any 64-bit word. -/
def decode (w : StimulusWord) : Decoded :=
  match Kind.ofBits (stimKind w) with
  | none => .refused .invalidKind
  | some k =>
    if stimReservedHigh w ≠ 0#2 ∨ stimReservedLow w ≠ 0#12 then .refused .reservedNonzero
    else
      match k with
      | .hostRd =>
        if stimData w ≠ 0#32 then .refused .unusedDataNonzero
        else decodeRead (stimSize w) (stimOffset w)
      | .hostWr => decodeWrite (stimSize w) (stimOffset w) (stimData w)
      | .rxByte =>
        decodeEvent w ((stimData w).extractLsb' 8 24 != 0#24) (.rxByte ((stimData w).extractLsb' 0 8))
      | .tick => decodeEvent w (stimData w != 0#32) .tick
      | .txReady => decodeEvent w (stimData w != 0#32) .txReady
      | .reset => decodeEvent w (stimData w != 0#32) .reset

/-! ### The encoder (R104, R106, R110) -/

/-- R110: a stimulus word from its fields, the reserved bits 0. -/
def stimulus (k : Kind) (size : BitVec 2) (off : Offset) (data : Word) : StimulusWord :=
  k.bits ++ 0#2 ++ size ++ 0#12 ++ off ++ data

/-- R104: a CMD word, the reserved bits 0. -/
def commandWord (op : Byte) (n : Nat) : Word := 0#7 ++ BitVec.ofNat 9 n ++ 0#8 ++ op

def encodeRead (r : Reg) : StimulusWord := stimulus .hostRd 2#2 r.offset 0#32
def encodeWrite (r : Reg) (v : Word) : StimulusWord := stimulus .hostWr 2#2 r.offset v
def encodeCommand (op : Byte) (n : Nat) : StimulusWord := encodeWrite .cmd (commandWord op n)
def encodeEvent (k : Kind) (data : Word) : StimulusWord := stimulus k 0#2 0#12 data

/-- The stimulus word of a well-formed instruction. -/
def encode : Instr → StimulusWord
  | .cmdNop => encodeCommand 0x00#8 0
  | .cmdStart => encodeCommand 0x01#8 0
  | .cmdStop => encodeCommand 0x02#8 0
  | .cmdRelease => encodeCommand 0x03#8 0
  | .cmdTxStart n => encodeCommand 0x04#8 n
  | .cmdCrcInit => encodeCommand 0x05#8 0
  | .cmdCrcRx n => encodeCommand 0x06#8 n
  | .cmdCrcTx n => encodeCommand 0x07#8 n
  | .cmdClrStats => encodeCommand 0x08#8 0
  | .rdId => encodeRead .id
  | .rdStatus => encodeRead .status
  | .rdIrqEn => encodeRead .irqEn
  | .rdCmd => encodeRead .cmd
  | .rdT15 => encodeRead .t15
  | .rdT35 => encodeRead .t35
  | .rdRxLen => encodeRead .rxLen
  | .rdTxLen => encodeRead .txLen
  | .rdTxCur => encodeRead .txCur
  | .rdTmr15 => encodeRead .tmr15
  | .rdTmr35 => encodeRead .tmr35
  | .rdCrcValue => encodeRead .crcValue
  | .rdCrcData => encodeRead .crcData
  | .rdStatRxFrames => encodeRead .statRxFrames
  | .rdStatTxFrames => encodeRead .statTxFrames
  | .rdStatNoise => encodeRead .statNoise
  | .rdStatOverflow => encodeRead .statOverflow
  | .rdStatDropped => encodeRead .statDropped
  | .wrStatus v => encodeWrite .status v
  | .wrIrqEn v => encodeWrite .irqEn v
  | .wrT15 v => encodeWrite .t15 v
  | .wrT35 v => encodeWrite .t35 v
  | .wrCrcValue v => encodeWrite .crcValue v
  | .wrCrcData v => encodeWrite .crcData v
  | .rdRxbuf i => encodeRead (.rxbuf i)
  | .rdTxbuf i => encodeRead (.txbuf i)
  | .wrTxbuf i v => encodeWrite (.txbuf i) v
  | .rxByte b => encodeEvent .rxByte (0#24 ++ b)
  | .tick => encodeEvent .tick 0#32
  | .txReady => encodeEvent .txReady 0#32
  | .reset => encodeEvent .reset 0#32

/-! ### The host's question: the instruction of a table word -/

/-- The stimulus word whose low `nbits` bits are `w` and whose other bits are 0. The block's one word IS the stimulus
word of R110, so no byte order enters. -/
def tableStimulus (nbits w : Nat) : StimulusWord := BitVec.ofNat 64 (w % 2 ^ nbits)

/-- The instruction the decoder reads from a table word, or `none`. -/
def decodeTableWord (nbits w : Nat) : Option Instr :=
  match decode (tableStimulus nbits w) with
  | .instr i => some i
  | .busError _ => none
  | .illegalCommand => none
  | .refused _ => none

end Sys2Proof
end

