-- ==== Sys2Proof/Machine/State.lean ====
section
/-! DEFINITION. The state of the block as plain data (spec/10_state.md R20), the reasons a step can stop, and the state
after reset (spec/10_state.md R42, spec/70_reset_and_hazards.md R330). -/

namespace Sys2Proof.Machine

/-- Nothing stops the block with a fault: spec/93_implementation_defined.md section 1 says that no case needs that
treatment, every error being a defined result (`bus_error` or a sticky flag). Safe: the type has no value. -/
inductive Fault where
deriving DecidableEq, Repr

/-- Why a step is refused. -/
inductive Refusal where
  /-- Raised by `exec` for an instruction that has no meaning yet; no arm does so now. Safe: the model stops. -/
  | notModelled (mnemonic : String)
  /-- Raised by `step` for a 64-bit word that is no stimulus (spec/30_encoding.md R111: "a model refuses the word").
  Safe: the model stops; it is a test-bench error, not a behaviour of the block. -/
  | invalidStimulus (e : DecodeError)
deriving DecidableEq, Repr

/-- What a meaning answers. -/
abbrev Result (σ : Type) := Host.Outcome σ Fault Refusal

/-- `state`, spec/10_state.md R22. The encodings 6 and 7 are never held, so they are no value of the type. -/
inductive Session where
  | off | init | idle | reception | wait | emission
deriving DecidableEq, Repr

/-- A countdown timer, spec/10_state.md R35; its timeout is the register `T15` or `T35`. -/
structure Timer where
  enabled : Bool
  count : Half
deriving DecidableEq, Repr

/-- The six sticky flags `STATUS[13:8]`, spec/10_state.md R23, R24. -/
structure Flags where
  txDone : Bool
  noise : Bool
  rxOvf : Bool
  drop : Bool
  cmdErr : Bool
  cfgErr : Bool
deriving DecidableEq, Repr

/-- The five statistics counters, spec/10_state.md R40. -/
structure Stats where
  rxFrames : Word
  txFrames : Word
  noise : Word
  overflow : Word
  dropped : Word
deriving DecidableEq, Repr

/-- A buffer of bytes as (index, byte) cells, indexes strictly rising and no cell holding 0, which is what an unlisted
index reads as: the reset contents of spec/10_state.md R42. `Memory.wf` (Ops) says that the form holds. -/
abbrev Memory := List Host.Cell

/-- A number of bytes of a 256-byte buffer, 0 to 256: the u9 elements of spec/10_state.md R36, R37 (log 5). -/
abbrev Len := Fin 257

/-- The answer to a host access in the step just taken (`bus_rdata`, `bus_err`; spec/00_scope.md R9,
spec/30_encoding.md R101). -/
inductive BusResponse where
  /-- The step took no host access. -/
  | noAccess
  /-- `bus_ok(v)` of a read. -/
  | readOk (v : Word)
  /-- `bus_ok` of a write, with no data (spec/44_host_access.md R260). -/
  | writeOk
  /-- `bus_error` of a read, which returns 0. -/
  | readError
  /-- `bus_error` of a write. -/
  | writeError
deriving DecidableEq, Repr

/-- The block's state (spec/10_state.md R20), then the model's own three fields: the outputs of the step just taken and
the inputs still to come. -/
structure State where
  state : Session
  rdRdy : Bool
  crcOk : Bool
  txie : Bool
  abandon : Bool
  flags : Flags
  irqEn : Word
  t15 : Half
  t35 : Half
  tmr15 : Timer
  tmr35 : Timer
  rx : Memory
  rxLen : Len
  tx : Memory
  txLen : Len
  txCur : Len
  crc : Half
  stats : Stats
  bus : BusResponse
  txOut : Option Byte
  stimuli : List StimulusWord
deriving DecidableEq, Repr

/-- spec/10_state.md R42, spec/70_reset_and_hazards.md R330. No input is pending (log 1). -/
def State.reset : State where
  state := .off
  rdRdy := false
  crcOk := false
  txie := false
  abandon := false
  flags := ⟨false, false, false, false, false, false⟩
  irqEn := 0#32
  t15 := 0#16
  t35 := 0#16
  tmr15 := ⟨false, 0#16⟩
  tmr35 := ⟨false, 0#16⟩
  rx := []
  rxLen := 0
  tx := []
  txLen := 0
  txCur := 0
  crc := 0xFFFF#16
  stats := ⟨0#32, 0#32, 0#32, 0#32, 0#32⟩
  bus := .noAccess
  txOut := none
  stimuli := []

end Sys2Proof.Machine
end

