-- ==== Sys2Proof/Machine/Ops.lean ====
section
/-! DEFINITION. The named operations over the buffers, the timers, the flags, the counters and the outputs: the
primitives of spec/00_scope.md R9 and spec/41_timers.md R171, and the report of an error (spec/60_exceptions.md R300).
The block takes no trap and returns from none (R306, R307): reporting an error is `State.setFlag` and `busError`. -/

namespace Sys2Proof.Machine

/-! ### Buffers -/

/-- The byte at an index; an unlisted index reads 0. -/
def Memory.read : Memory → Nat → Byte
  | [], _ => 0#8
  | (k, b) :: m, a => if k = a then b else Memory.read m a

/-- Put a cell in front, unless its byte is what an unlisted index reads as. -/
def Memory.cons (a : Nat) (b : Byte) (m : Memory) : Memory :=
  if b = 0#8 then m else (a, b) :: m

/-- Write one byte, keeping the canonical form. -/
def Memory.write : Memory → Nat → Byte → Memory
  | [], a, b => Memory.cons a b []
  | (k, c) :: m, a, b =>
    if a < k then Memory.cons a b ((k, c) :: m)
    else if a = k then Memory.cons a b m
    else (k, c) :: Memory.write m a b

/-- Every index is at least `lo` and below 256, they rise strictly, and no listed byte is 0. -/
def Memory.wfFrom : Nat → Memory → Bool
  | _, [] => true
  | lo, (k, b) :: m => decide (lo ≤ k) && decide (k < 256) && decide (b ≠ 0#8) && Memory.wfFrom (k + 1) m

/-- The canonical form of a 256-byte buffer. -/
def Memory.wf (m : Memory) : Bool := Memory.wfFrom 0 m

/-! ### Lengths and the send cursor (10_state.md R33, R36, R37) -/

/-- One byte more. It stays at 256; every rule that uses it has checked that the length is below 256. -/
def Len.succ (n : Len) : Len := if h : n.val < 256 then ⟨n.val + 1, by omega⟩ else n

/-- A command's byte count as a length; every rule that uses it has checked that `n <= 256`. -/
def Len.ofCount (n : Nat) : Len := if h : n ≤ 256 then ⟨n, by omega⟩ else ⟨256, by omega⟩

/-! ### Timers (41_timers.md R171, R172) -/

def Timer.started (timeout : Half) : Timer := ⟨true, timeout⟩
def Timer.stopped : Timer := ⟨false, 0#16⟩

/-- R172: an enabled timer counts down by one and disables itself at 0; a disabled timer does not move. -/
def Timer.counted (t : Timer) : Timer :=
  if t.enabled then
    if t.count - 1#16 = 0#16 then ⟨false, 0#16⟩ else ⟨true, t.count - 1#16⟩
  else t

/-- R172: the timer reaches 0 in this `TICK`. -/
def Timer.expires (t : Timer) : Bool := t.enabled && decide (t.count - 1#16 = 0#16)

def State.startTmr15 (s : State) : State := { s with tmr15 := Timer.started s.t15 }
def State.startTmr35 (s : State) : State := { s with tmr35 := Timer.started s.t35 }
def State.stopTmr15 (s : State) : State := { s with tmr15 := Timer.stopped }
def State.stopTmr35 (s : State) : State := { s with tmr35 := Timer.stopped }

/-! ### Sticky flags and counters (00_scope.md R9, 10_state.md R24, R40) -/

inductive StickyFlag where
  | txDone | noise | rxOvf | drop | cmdErr | cfgErr
deriving DecidableEq, Repr

def Flags.set (f : Flags) : StickyFlag → Flags
  | .txDone => { f with txDone := true }
  | .noise => { f with noise := true }
  | .rxOvf => { f with rxOvf := true }
  | .drop => { f with drop := true }
  | .cmdErr => { f with cmdErr := true }
  | .cfgErr => { f with cfgErr := true }

/-- R9, `set_flag(F)`. -/
def State.setFlag (s : State) (f : StickyFlag) : State := { s with flags := s.flags.set f }

inductive Counter where
  | rxFrames | txFrames | noise | overflow | dropped
deriving DecidableEq, Repr

/-- R9, R40: `min(C + 1, 0xFFFF_FFFF)`. -/
def saturatingSucc (c : Word) : Word := if c = 0xFFFFFFFF#32 then c else c + 1#32

def Stats.bump (t : Stats) : Counter → Stats
  | .rxFrames => { t with rxFrames := saturatingSucc t.rxFrames }
  | .txFrames => { t with txFrames := saturatingSucc t.txFrames }
  | .noise => { t with noise := saturatingSucc t.noise }
  | .overflow => { t with overflow := saturatingSucc t.overflow }
  | .dropped => { t with dropped := saturatingSucc t.dropped }

/-- R9, `count(C)`. -/
def State.bump (s : State) (c : Counter) : State := { s with stats := s.stats.bump c }

/-! ### The outputs of a step (00_scope.md R10, 30_encoding.md R101) -/

/-- The step answers a host access, or none, and emits no byte. -/
def State.respond (s : State) (r : BusResponse) : State := { s with bus := r, txOut := none }

/-- R9, `emit(b)`: the step outputs one byte to the transmitter. -/
def State.emit (s : State) (b : Byte) : State := { s with bus := .noAccess, txOut := some b }

/-- R9, `bus_ok(v)` of a read: nothing else changes (20_memory.md R75). -/
def answerRead (v : Word) (s : State) : Result State := .next (s.respond (.readOk v))

/-- `bus_ok` of a write that left the state `s`. -/
def answerWrite (s : State) : Result State := .next (s.respond .writeOk)

/-- The end of an event's step that emits nothing. -/
def answerEvent (s : State) : Result State := .next (s.respond .noAccess)

/-- The end of a `TX_READY` step that emits a byte. -/
def answerEmit (b : Byte) (s : State) : Result State := .next (s.emit b)

/-- A write or a command that its rule rejects: `bus_ok`, and only `CMD_ERR` is set (44_host_access.md R260). -/
def rejectWrite (s : State) : Result State := answerWrite (s.setFlag .cmdErr)

/-- R9, R262, R263: `bus_error`. No state changes and no flag is set. -/
def busError (write : Bool) (s : State) : Result State :=
  .next (s.respond (if write then .writeError else .readError))

/-- A step with no input pending: nothing changes and no signal is driven (log 2). -/
def waitForInput (s : State) : Result State := .next (s.respond .noAccess)

/-! ### Fetching the next input (00_scope.md R10) -/

/-- The oldest pending stimulus word, and the state without it. -/
def fetch (s : State) : Option (StimulusWord × State) :=
  match s.stimuli with
  | [] => none
  | w :: rest => some (w, { s with stimuli := rest })

/-- `s` with one more input, which the next step takes. -/
def State.pushStimulus (s : State) (w : StimulusWord) : State := { s with stimuli := w :: s.stimuli }

end Sys2Proof.Machine
end

