-- ==== Sys2Proof/Machine/CrcFunction.lean ====
section
/-! DEFINITION. The CRC-16 function of spec/40_crc.md R140, R141: reflected polynomial 0xA001, seed 0xFFFF. -/

namespace Sys2Proof.Machine

/-- R140, one of the eight iterations: shift right, and XOR the polynomial when the bit shifted out is 1. -/
def crcShift (c : Half) : Half :=
  if c.getLsbD 0 then (c >>> 1) ^^^ 0xA001#16 else c >>> 1

def crcShifts : Nat → Half → Half
  | 0, c => c
  | k + 1, c => crcShifts k (crcShift c)

/-- R140: one byte of the bit-serial CRC. -/
def crcStep (c : Half) (b : Byte) : Half := crcShifts 8 (c ^^^ b.setWidth 16)

/-- R141, R148: the seed. -/
def crcSeed : Half := 0xFFFF#16

/-- R141: the CRC of `m[0]` to `m[n-1]`, in index order. -/
def crc16 (m : Memory) : Nat → Half
  | 0 => crcSeed
  | n + 1 => crcStep (crc16 m n) (m.read n)

end Sys2Proof.Machine
end

