-- ==== Sys2Proof/Machine/Flags.lean ====
section
/-! DEFINITION. The status bits, the interrupt level and the values computed from the state (spec/10_state.md R22 to R31). -/

namespace Sys2Proof.Machine

/-- R22: the encoding of `STATUS.STATE`. -/
def Session.code : Session → BitVec 3
  | .off => 0#3
  | .init => 1#3
  | .idle => 2#3
  | .reception => 3#3
  | .wait => 4#3
  | .emission => 5#3

/-- R31: the `rx_enable` output. -/
def State.rxEnable (s : State) : Bool :=
  match s.state with
  | .init | .idle | .reception | .wait => true
  | .off | .emission => false

/-- R23, R261: the `STATUS` register, bit 13 to bit 0, bits 31:14 reading 0. -/
def State.status (s : State) : Word :=
  0#18 ++ BitVec.ofBool s.flags.cfgErr ++ BitVec.ofBool s.flags.cmdErr ++ BitVec.ofBool s.flags.drop
    ++ BitVec.ofBool s.flags.rxOvf ++ BitVec.ofBool s.flags.noise ++ BitVec.ofBool s.flags.txDone
    ++ BitVec.ofBool s.abandon ++ BitVec.ofBool s.rxEnable ++ BitVec.ofBool s.txie ++ BitVec.ofBool s.crcOk
    ++ BitVec.ofBool s.rdRdy ++ s.state.code

/-- R25, R26: the implemented bits of `IRQ_EN`, bit 3 and bits 13:8. -/
def irqMask : Word := 0x00003F08#32

/-- R26: the `irq` output, a level. -/
def State.irq (s : State) : Bool := decide (s.status &&& s.irqEn &&& irqMask ≠ 0#32)

/-- R9, R27: a frame is held. -/
def State.held (s : State) : Bool := decide (s.state = .wait) && s.rdRdy

/-- R264: a sticky flag survives a write of `v` unless its bit of `v` is 1. -/
def Flags.writeOneToClear (f : Flags) (v : Word) : Flags where
  txDone := f.txDone && !v.getLsbD 8
  noise := f.noise && !v.getLsbD 9
  rxOvf := f.rxOvf && !v.getLsbD 10
  drop := f.drop && !v.getLsbD 11
  cmdErr := f.cmdErr && !v.getLsbD 12
  cfgErr := f.cfgErr && !v.getLsbD 13

/-- R28: the trailing two bytes of an `n`-byte frame, the low byte first on the line. -/
def trailingCrc (m : Memory) (n : Nat) : Half := m.read (n - 1) ++ m.read (n - 2)

/-- R28: `CRC_OK` of the `n` bytes in a buffer. -/
def frameCrcOk (m : Memory) (n : Nat) : Bool :=
  decide (4 ≤ n) && decide (crc16 m (n - 2) = trailingCrc m n)

/-! ### The output signals of R101 -/

/-- `bus_err`, R101: the access's result. In a step that takes no host access R101 gives it no level; DESIGN CHOICE: the
model drives it 0 (log 20). -/
def BusResponse.err : BusResponse → Bool
  | .readError | .writeError => true
  | .noAccess | .readOk _ | .writeOk => false

/-- `bus_rdata` where the step's access returns data: a read; a read that answers `bus_error` returns 0 (R9). -/
def BusResponse.rdata : BusResponse → Option Word
  | .readOk v => some v
  | .readError => some 0#32
  | .noAccess | .writeOk | .writeError => none

/-- `tx_valid`. -/
def State.txValid (s : State) : Bool := s.txOut.isSome

end Sys2Proof.Machine
end

