-- ==== Sys2Proof/Machine/Operands.lean ====
section
/-! DEFINITION. What a read of each register returns (spec/44_host_access.md R261, R270, R144) and what a write takes
from its 32-bit data (spec/30_encoding.md R108). -/

namespace Sys2Proof.Machine

/-- `ID_VALUE`, spec/10_state.md R21. -/
def idValue : Word := 0x4D425207#32

/-- `(t.enabled << 16) or t.count`, spec/10_state.md R35. -/
def Timer.view (t : Timer) : Word := 0#15 ++ BitVec.ofBool t.enabled ++ t.count

/-- `zext_32` of a length. -/
def Len.view (n : Len) : Word := BitVec.ofNat 32 n.val

/-- R25, R261: the stored mask, bits 3 and 13:8 only. -/
def State.irqEnView (s : State) : Word := s.irqEn &&& irqMask

/-- R270: byte `i` of the current frame, 0 at or past `rx_len`. -/
def State.rxbufView (s : State) (i : Byte) : Word :=
  if i.toNat < s.rxLen.val then (s.rx.read i.toNat).setWidth 32 else 0#32

/-- R261: byte `i` of the send buffer, whatever `tx_len` is. -/
def State.txbufView (s : State) (i : Byte) : Word := (s.tx.read i.toNat).setWidth 32

/-- R261: `value(off)` for the register that `off` selects. -/
def State.readReg (s : State) : Reg → Word
  | .id => idValue
  | .status => s.status
  | .irqEn => s.irqEnView
  | .cmd => 0#32
  | .t15 => s.t15.setWidth 32
  | .t35 => s.t35.setWidth 32
  | .rxLen => Len.view s.rxLen
  | .txLen => Len.view s.txLen
  | .txCur => Len.view s.txCur
  | .tmr15 => s.tmr15.view
  | .tmr35 => s.tmr35.view
  | .crcValue => s.crc.setWidth 32
  | .crcData => 0#32
  | .statRxFrames => s.stats.rxFrames
  | .statTxFrames => s.stats.txFrames
  | .statNoise => s.stats.noise
  | .statOverflow => s.stats.overflow
  | .statDropped => s.stats.dropped
  | .rxbuf i => s.rxbufView i
  | .txbuf i => s.txbufView i

/-! ### Write data (R108): bits outside these fields are ignored -/

/-- `v[15:0]`. -/
def dataHalf (v : Word) : Half := v.extractLsb' 0 16

/-- `v[7:0]`. -/
def dataByte (v : Word) : Byte := v.extractLsb' 0 8

/-- The enable mask in bits 3 and 13:8. -/
def dataIrqMask (v : Word) : Word := v &&& irqMask

end Sys2Proof.Machine
end

