-- ==== Sys2Proof/Machine/Crc.lean ====
section
/-! DEFINITION. The CRC unit's operations (spec/40_crc.md R144 to R148). None reads or writes the framing state (R150). -/

namespace Sys2Proof.Machine

/-- R144. -/
def execWrCrcValue (v : Word) (s : State) : Host.Outcome State Fault Refusal :=
  answerWrite { s with crc := dataHalf v }

/-- R144. -/
def execRdCrcValue (s : State) : Host.Outcome State Fault Refusal :=
  answerRead (s.readReg .crcValue) s

/-- R145. -/
def execWrCrcData (v : Word) (s : State) : Host.Outcome State Fault Refusal :=
  answerWrite { s with crc := crcStep s.crc (dataByte v) }

/-- R146: the bound is `rx_len`, not 256. -/
def execCmdCrcRx (n : Nat) (s : State) : Host.Outcome State Fault Refusal :=
  if s.rxLen.val < n then rejectWrite s
  else answerWrite { s with crc := crc16 s.rx n }

/-- R147: reads `tx` as it stands, in any state. -/
def execCmdCrcTx (n : Nat) (s : State) : Host.Outcome State Fault Refusal :=
  if 256 < n then rejectWrite s
  else answerWrite { s with crc := crc16 s.tx n }

/-- R148. -/
def execCmdCrcInit (s : State) : Host.Outcome State Fault Refusal :=
  answerWrite { s with crc := crcSeed }

end Sys2Proof.Machine
end

