-- ==== Sys2Proof/Machine/HostAccess.lean ====
section
/-! DEFINITION. The host's reads and writes of the register window, and the two commands without a unit of their own
(spec/44_host_access.md). -/

namespace Sys2Proof.Machine

/-! ### Reads (R261, R270): no state changes -/

def execRdId (s : State) : Host.Outcome State Fault Refusal := answerRead (s.readReg .id) s
def execRdStatus (s : State) : Host.Outcome State Fault Refusal := answerRead (s.readReg .status) s
def execRdIrqEn (s : State) : Host.Outcome State Fault Refusal := answerRead (s.readReg .irqEn) s
def execRdCmd (s : State) : Host.Outcome State Fault Refusal := answerRead (s.readReg .cmd) s
def execRdT15 (s : State) : Host.Outcome State Fault Refusal := answerRead (s.readReg .t15) s
def execRdT35 (s : State) : Host.Outcome State Fault Refusal := answerRead (s.readReg .t35) s
def execRdRxLen (s : State) : Host.Outcome State Fault Refusal := answerRead (s.readReg .rxLen) s
def execRdTxLen (s : State) : Host.Outcome State Fault Refusal := answerRead (s.readReg .txLen) s
def execRdTxCur (s : State) : Host.Outcome State Fault Refusal := answerRead (s.readReg .txCur) s
def execRdTmr15 (s : State) : Host.Outcome State Fault Refusal := answerRead (s.readReg .tmr15) s
def execRdTmr35 (s : State) : Host.Outcome State Fault Refusal := answerRead (s.readReg .tmr35) s
def execRdCrcData (s : State) : Host.Outcome State Fault Refusal := answerRead (s.readReg .crcData) s
def execRdStatRxFrames (s : State) : Host.Outcome State Fault Refusal := answerRead (s.readReg .statRxFrames) s
def execRdStatTxFrames (s : State) : Host.Outcome State Fault Refusal := answerRead (s.readReg .statTxFrames) s
def execRdStatNoise (s : State) : Host.Outcome State Fault Refusal := answerRead (s.readReg .statNoise) s
def execRdStatOverflow (s : State) : Host.Outcome State Fault Refusal := answerRead (s.readReg .statOverflow) s
def execRdStatDropped (s : State) : Host.Outcome State Fault Refusal := answerRead (s.readReg .statDropped) s

def execRdRxbuf (i : Byte) (s : State) : Host.Outcome State Fault Refusal := answerRead (s.readReg (.rxbuf i)) s
def execRdTxbuf (i : Byte) (s : State) : Host.Outcome State Fault Refusal := answerRead (s.readReg (.txbuf i)) s

/-! ### Writes -/

/-- R264: clear sticky flags. -/
def execWrStatus (v : Word) (s : State) : Host.Outcome State Fault Refusal :=
  answerWrite { s with flags := s.flags.writeOneToClear v }

/-- R268. -/
def execWrIrqEn (v : Word) (s : State) : Host.Outcome State Fault Refusal :=
  answerWrite { s with irqEn := dataIrqMask v }

/-- R266: only in Off. -/
def execWrT15 (v : Word) (s : State) : Host.Outcome State Fault Refusal :=
  if s.state = .off then answerWrite { s with t15 := dataHalf v } else rejectWrite s

/-- R266: only in Off. -/
def execWrT35 (v : Word) (s : State) : Host.Outcome State Fault Refusal :=
  if s.state = .off then answerWrite { s with t35 := dataHalf v } else rejectWrite s

/-- R267: not in Emission. -/
def execWrTxbuf (i : Byte) (v : Word) (s : State) : Host.Outcome State Fault Refusal :=
  if s.state = .emission then rejectWrite s
  else answerWrite { s with tx := s.tx.write i.toNat (dataByte v) }

/-! ### Commands -/

/-- R273. -/
def execCmdNop (s : State) : Host.Outcome State Fault Refusal := answerWrite s

/-- R272. -/
def execCmdClrStats (s : State) : Host.Outcome State Fault Refusal :=
  answerWrite { s with stats := ⟨0#32, 0#32, 0#32, 0#32, 0#32⟩ }

/-- R269: a CMD word that is no command. -/
def illegalCommand (s : State) : Host.Outcome State Fault Refusal := rejectWrite s

end Sys2Proof.Machine
end

