-- ==== Sys2Proof/Machine/Reset.lean ====
section
/-! DEFINITION. The hardware reset (spec/70_reset_and_hazards.md R330). -/

namespace Sys2Proof.Machine

/-- R330: every element takes its reset value. The inputs still to come are no element of the block and stay (log 4). -/
def execReset (s : State) : Host.Outcome State Fault Refusal :=
  answerEvent { State.reset with stimuli := s.stimuli }

end Sys2Proof.Machine
end

