-- ==== Sys2Proof/Machine/Receive.lean ====
section
/-! DEFINITION. Session control and the frame-boundary detector (spec/42_receive.md). -/

namespace Sys2Proof.Machine

/-! ### What START and STOP have in common (R191, R192) -/

/-- The lengths, the cursor and the hand-off bits go to 0; `tmr15` stops. -/
def State.clearSession (s : State) : State :=
  { s with
    rxLen := 0, rdRdy := false, crcOk := false, abandon := false,
    txLen := 0, txCur := 0, txie := false }.stopTmr15

/-- 00_scope.md R7: `1 <= T15 < T35`. -/
def State.timeoutsLegal (s : State) : Bool := decide (1#16 ≤ s.t15) && decide (s.t15 < s.t35)

/-- R191. -/
def execCmdStart (s : State) : Host.Outcome State Fault Refusal :=
  if s.state = .off then
    if s.timeoutsLegal then answerWrite { s.clearSession with state := .init }.startTmr35
    else answerWrite (s.setFlag .cfgErr)
  else rejectWrite s

/-- R192: in Off it is a legal no-op. -/
def execCmdStop (s : State) : Host.Outcome State Fault Refusal :=
  if s.state = .off then answerWrite s
  else answerWrite { s.clearSession with state := .off }.stopTmr35

/-- R208. -/
def execCmdRelease (s : State) : Host.Outcome State Fault Refusal :=
  if s.held then answerWrite { s with rdRdy := false, crcOk := false, rxLen := 0, state := .idle }
  else rejectWrite s

/-! ### Byte arrival, one function per rule -/

/-- R194: the first byte of a frame. -/
def State.rxFirst (s : State) (b : Byte) : State :=
  { { s with rx := s.rx.write 0 b, rxLen := 1 }.startTmr15.startTmr35 with state := .reception }

/-- R195: the next byte of a frame. -/
def State.rxStore (s : State) (b : Byte) : State :=
  { s with rx := s.rx.write s.rxLen.val b, rxLen := Len.succ s.rxLen }.startTmr15.startTmr35

/-- R197: a byte in Init only restarts the silence. -/
def State.rxDiscard (s : State) : State := s.startTmr35

/-- R203: the 257th byte of a frame. -/
def State.rxOverflow (s : State) : State :=
  (({ { s with rxLen := 0 }.stopTmr15.stopTmr35 with state := .idle }).setFlag .rxOvf).bump .overflow

/-- R204: a noise byte in Wait. -/
def State.rxNoise (s : State) : State :=
  (({ s with abandon := true, rxLen := 0 }.startTmr35).setFlag .noise).bump .noise

/-- R207: a byte while a frame is held. -/
def State.rxDrop (s : State) : State := (s.setFlag .drop).bump .dropped

/-- R193, R200, R201: the rule that a received byte runs. -/
def State.receive (s : State) (b : Byte) : State :=
  match s.state with
  | .off => s
  | .emission => s
  | .init => s.rxDiscard
  | .idle => s.rxFirst b
  | .reception => if s.rxLen.val < 256 then s.rxStore b else s.rxOverflow
  | .wait => if s.rdRdy then s.rxDrop else s.rxNoise

/-- R193. -/
def execRxByte (b : Byte) (s : State) : Host.Outcome State Fault Refusal :=
  answerEvent (s.receive b)

/-! ### The timer expiries of the detector -/

/-- R196: 1.5-character silence in Reception; `tmr35` keeps running. -/
def State.silence15 (s : State) : State := { s with state := .wait }

/-- R198: 3.5-character silence in Init. -/
def State.initDone (s : State) : State := { s with state := .idle }

/-- R205: 3.5-character silence after a noise byte. -/
def State.abandonDone (s : State) : State := { s with abandon := false, rxLen := 0, state := .idle }

/-- R206: frame complete; `state` stays Wait. -/
def State.frameDone (s : State) : State :=
  { s with rdRdy := true, crcOk := frameCrcOk s.rx s.rxLen.val }.bump .rxFrames

end Sys2Proof.Machine
end

