-- ==== Sys2Proof/Machine/Transmit.lean ====
section
/-! DEFINITION. The transmit engine and its turnaround (spec/43_transmit.md). It sends whole bytes: no bit stuffing
(spec/90_conflicts.md C1). -/

namespace Sys2Proof.Machine

/-- R231. -/
def execCmdTxStart (n : Nat) (s : State) : Host.Outcome State Fault Refusal :=
  if s.held && decide (1 ≤ n) && decide (n ≤ 256) then
    answerWrite { s with
      rdRdy := false, crcOk := false, rxLen := 0,
      txLen := Len.ofCount n, txCur := 0, txie := true, state := .emission }
  else rejectWrite s

/-- R232 (draining), R233 (send buffer exhausted), R235 (no effect). -/
def execTxReady (s : State) : Host.Outcome State Fault Refusal :=
  if s.state = .emission ∧ s.txie = true then
    if s.txCur.val < s.txLen.val then
      answerEmit (s.tx.read s.txCur.val) { s with txCur := Len.succ s.txCur }
    else answerEvent { s with txie := false }.startTmr35
  else answerEvent s

/-- R234: the turnaround silence has ended. -/
def State.emissionDone (s : State) : State :=
  ({ s with state := .idle, rxLen := 0 }.setFlag .txDone).bump .txFrames

end Sys2Proof.Machine
end

