-- ==== Sys2Proof/Machine/Timers.lean ====
section
/-! DEFINITION. The TICK event and the expiry dispatch (spec/41_timers.md R172, R173). -/

namespace Sys2Proof.Machine

/-- R173, `tmr15`: outside Reception it has no transition (42_receive.md R199). -/
def State.expireTmr15 (s : State) : State :=
  match s.state with
  | .reception => s.silence15
  | .off | .init | .idle | .wait | .emission => s

/-- R173, `tmr35`: in Off, Idle and Reception it has no transition (42_receive.md R199). -/
def State.expireTmr35 (s : State) : State :=
  match s.state with
  | .init => s.initDone
  | .wait => if s.abandon then s.abandonDone else s.frameDone
  | .emission => s.emissionDone
  | .off | .idle | .reception => s

/-- R172 for `tmr15`. -/
def State.tickTmr15 (s : State) : State :=
  if s.tmr15.expires then { s with tmr15 := s.tmr15.counted }.expireTmr15
  else { s with tmr15 := s.tmr15.counted }

/-- R172 for `tmr35`. -/
def State.tickTmr35 (s : State) : State :=
  if s.tmr35.expires then { s with tmr35 := s.tmr35.counted }.expireTmr35
  else { s with tmr35 := s.tmr35.counted }

/-- R172: `tmr15` first, its expiry handled, then `tmr35`. -/
def execTick (s : State) : Host.Outcome State Fault Refusal :=
  answerEvent s.tickTmr15.tickTmr35

end Sys2Proof.Machine
end

