-- ==== Sys2Proof/Machine/Dispatch.lean ====
section
/-! DEFINITION. One arm per row of spec/opcode_table.json. -/

namespace Sys2Proof.Machine

def exec (i : Instr) (s : State) : Host.Outcome State Fault Refusal :=
  match i with
  | .cmdNop => Sys2Proof.Machine.execCmdNop s
  | .cmdStart => Sys2Proof.Machine.execCmdStart s
  | .cmdStop => Sys2Proof.Machine.execCmdStop s
  | .cmdRelease => Sys2Proof.Machine.execCmdRelease s
  | .cmdTxStart n => Sys2Proof.Machine.execCmdTxStart n s
  | .cmdCrcInit => Sys2Proof.Machine.execCmdCrcInit s
  | .cmdCrcRx n => Sys2Proof.Machine.execCmdCrcRx n s
  | .cmdCrcTx n => Sys2Proof.Machine.execCmdCrcTx n s
  | .cmdClrStats => Sys2Proof.Machine.execCmdClrStats s
  | .rdId => Sys2Proof.Machine.execRdId s
  | .rdStatus => Sys2Proof.Machine.execRdStatus s
  | .rdIrqEn => Sys2Proof.Machine.execRdIrqEn s
  | .rdCmd => Sys2Proof.Machine.execRdCmd s
  | .rdT15 => Sys2Proof.Machine.execRdT15 s
  | .rdT35 => Sys2Proof.Machine.execRdT35 s
  | .rdRxLen => Sys2Proof.Machine.execRdRxLen s
  | .rdTxLen => Sys2Proof.Machine.execRdTxLen s
  | .rdTxCur => Sys2Proof.Machine.execRdTxCur s
  | .rdTmr15 => Sys2Proof.Machine.execRdTmr15 s
  | .rdTmr35 => Sys2Proof.Machine.execRdTmr35 s
  | .rdCrcValue => Sys2Proof.Machine.execRdCrcValue s
  | .rdCrcData => Sys2Proof.Machine.execRdCrcData s
  | .rdStatRxFrames => Sys2Proof.Machine.execRdStatRxFrames s
  | .rdStatTxFrames => Sys2Proof.Machine.execRdStatTxFrames s
  | .rdStatNoise => Sys2Proof.Machine.execRdStatNoise s
  | .rdStatOverflow => Sys2Proof.Machine.execRdStatOverflow s
  | .rdStatDropped => Sys2Proof.Machine.execRdStatDropped s
  | .wrStatus v => Sys2Proof.Machine.execWrStatus v s
  | .wrIrqEn v => Sys2Proof.Machine.execWrIrqEn v s
  | .wrT15 v => Sys2Proof.Machine.execWrT15 v s
  | .wrT35 v => Sys2Proof.Machine.execWrT35 v s
  | .wrCrcValue v => Sys2Proof.Machine.execWrCrcValue v s
  | .wrCrcData v => Sys2Proof.Machine.execWrCrcData v s
  | .rdRxbuf k => Sys2Proof.Machine.execRdRxbuf k s
  | .rdTxbuf k => Sys2Proof.Machine.execRdTxbuf k s
  | .wrTxbuf k v => Sys2Proof.Machine.execWrTxbuf k v s
  | .rxByte b => Sys2Proof.Machine.execRxByte b s
  | .tick => Sys2Proof.Machine.execTick s
  | .txReady => Sys2Proof.Machine.execTxReady s
  | .reset => Sys2Proof.Machine.execReset s

end Sys2Proof.Machine
end

