-- ==== Sys2Proof/Machine/Run.lean ====
section
/-! DEFINITION. Running one decoded input (spec/30_encoding.md R111): each of the four classes of words. -/

namespace Sys2Proof.Machine

def runDecoded (d : Decoded) (s : State) : Host.Outcome State Fault Refusal :=
  match d with
  | .instr i => exec i s
  | .busError write => busError write s
  | .illegalCommand => illegalCommand s
  | .refused e => .refused (.invalidStimulus e)

end Sys2Proof.Machine
end

