-- ==== Sys2Proof/Machine/Step.lean ====
section
/-! DEFINITION. One step: take the oldest pending stimulus word, decode it, run it (spec/00_scope.md R10,
spec/30_encoding.md R111). -/

namespace Sys2Proof.Machine

def step (s : State) : Host.Outcome State Fault Refusal :=
  match fetch s with
  | none => waitForInput s
  | some (w, s') => runDecoded (decode w) s'

/-- `s` with the table word `w` as its next input: the delivery of one stimulus from outside (log 1). -/
def State.withFetchWord (s : State) (nbits w : Nat) : State := s.pushStimulus (tableStimulus nbits w)

end Sys2Proof.Machine
end

