-- ==== Sys2Proof/Machine/Trace.lean ====
section
/-! DEFINITION. The trace notation of spec/30_encoding.md R113 and its pseudo-statements R114, as statements with the
stimulus words they stand for. It is the notation's structure: the text form (numbers, comments, `=>`) is not read. -/

namespace Sys2Proof.Machine

/-- `bus_size` of R101. -/
inductive Width where
  | byte | half | word
deriving DecidableEq, Repr

def Width.bits : Width → BitVec 2
  | .byte => 0#2
  | .half => 1#2
  | .word => 2#2

/-- R113 and R114. `rd.b`, `rd.h`, `rd` and their writes are `rd w r`, `wr w r v`; `@off` is a raw offset. -/
inductive Statement where
  | rd (w : Width) (r : Reg)
  | rdAt (off : Offset)
  | wr (w : Width) (r : Reg) (v : Word)
  | wrAt (off : Offset) (v : Word)
  | cmd (op n : Nat)
  | rx (b : Byte)
  | tick
  | txr
  | reset
  -- pseudo-statements
  | ticks (k : Nat)
  | txrs (k : Nat)
  | rxs (bs : List Byte)
  | rxg (g : Nat) (bs : List Byte)
  | wrbuf (i : Byte) (bs : List Byte)
  | clr (mask : Word)
  | cfg (t15 t35 : Word)
deriving DecidableEq, Repr

def rdWord (w : Width) (off : Offset) : StimulusWord := stimulus .hostRd w.bits off 0#32
def wrWord (w : Width) (off : Offset) (v : Word) : StimulusWord := stimulus .hostWr w.bits off v
/-- R113, `cmd OP N`: `wr CMD, (N << 16) or OP`, whatever the two numbers. DESIGN CHOICE: of a value of more than 32 bits,
to which R113 gives no meaning, the low 32 bits are written (log 18). -/
def cmdWord (op n : Nat) : StimulusWord := wrWord .word Reg.cmd.offset (BitVec.ofNat 32 ((n <<< 16) ||| op))
def rxWord (b : Byte) : StimulusWord := encode (.rxByte b)
def tickWord : StimulusWord := encode .tick
def txReadyWord : StimulusWord := encode .txReady
def resetWord : StimulusWord := encode .reset

/-- R114, `rxg`: `g` ticks between consecutive bytes, none after the last. -/
def rxgWords (g : Nat) : List Byte → List StimulusWord
  | [] => []
  | [b] => [rxWord b]
  | b :: c :: bs => rxWord b :: (List.replicate g tickWord ++ rxgWords g (c :: bs))

/-- R114, `wrbuf`: consecutive words of the window from the offset of `TXBUF[i]`. -/
def wrbufWords : Offset → List Byte → List StimulusWord
  | _, [] => []
  | off, b :: bs => wrWord .word off (b.setWidth 32) :: wrbufWords (off + 4#12) bs

/-- The stimulus words of one statement, in order. -/
def Statement.words : Statement → List StimulusWord
  | .rd w r => [rdWord w r.offset]
  | .rdAt off => [rdWord .word off]
  | .wr w r v => [wrWord w r.offset v]
  | .wrAt off v => [wrWord .word off v]
  | .cmd op n => [cmdWord op n]
  | .rx b => [rxWord b]
  | .tick => [tickWord]
  | .txr => [txReadyWord]
  | .reset => [resetWord]
  | .ticks k => List.replicate k tickWord
  | .txrs k => List.replicate k txReadyWord
  | .rxs bs => bs.map rxWord
  | .rxg g bs => rxgWords g bs
  | .wrbuf i bs => wrbufWords (Reg.txbuf i).offset bs
  | .clr mask => [wrWord .word Reg.status.offset mask]
  | .cfg t15 t35 => [wrWord .word Reg.t15.offset t15, wrWord .word Reg.t35.offset t35]

/-- The stimulus words of a trace. -/
def traceWords (t : List Statement) : List StimulusWord := t.flatMap Statement.words

end Sys2Proof.Machine
end

