-- ==== Sys2Proof/Safety.lean ====
section
/-! DEFINITION. What a sound state of the block is (spec/10_state.md R28, R29, R35, R37, R43; spec/00_scope.md R7), and the
words that the statements about the block use. -/

namespace Sys2Proof.Machine

/-- R35: a running timer holds a count between 1 and its timeout, a stopped one holds 0. -/
def Timer.Inv (t : Timer) (timeout : Half) : Prop :=
  (t.enabled = true → 1 ≤ t.count.toNat ∧ t.count.toNat ≤ timeout.toNat) ∧
  (t.enabled = false → t.count = 0#16)

/-- The rows of R43, one for each value of `state`; Wait's three rows are told apart by `RD_RDY` and `ABANDON`. -/
def State.PhaseInv (s : State) : Prop :=
  match s.state with
  | .off =>
    s.rxLen = 0 ∧ s.tmr15.enabled = false ∧ s.tmr35.enabled = false ∧
    s.rdRdy = false ∧ s.txie = false ∧ s.abandon = false ∧ s.crcOk = false
  | .init =>
    s.rxLen = 0 ∧ s.tmr15.enabled = false ∧ s.tmr35.enabled = true ∧
    s.rdRdy = false ∧ s.txie = false ∧ s.abandon = false
  | .idle =>
    s.rxLen = 0 ∧ s.tmr15.enabled = false ∧ s.tmr35.enabled = false ∧
    s.rdRdy = false ∧ s.txie = false ∧ s.abandon = false
  | .reception =>
    1 ≤ s.rxLen.val ∧ s.tmr15.enabled = true ∧ s.tmr35.enabled = true ∧
    s.tmr35.count.toNat + s.t15.toNat = s.tmr15.count.toNat + s.t35.toNat ∧
    s.rdRdy = false ∧ s.txie = false ∧ s.abandon = false
  | .wait =>
    s.tmr15.enabled = false ∧ s.txie = false ∧
    (s.rdRdy = true → 1 ≤ s.rxLen.val ∧ s.tmr35.enabled = false ∧ s.abandon = false) ∧
    (s.abandon = true → s.rxLen = 0 ∧ s.tmr35.enabled = true ∧ s.rdRdy = false) ∧
    (s.rdRdy = false → s.abandon = false → 1 ≤ s.rxLen.val ∧ s.tmr35.enabled = true)
  | .emission =>
    s.rxLen = 0 ∧ s.tmr15.enabled = false ∧ s.rdRdy = false ∧ s.abandon = false ∧
    (s.txie = true → s.tmr35.enabled = false) ∧
    (s.txie = false → s.tmr35.enabled = true ∧ s.txCur = s.txLen)

/-- The invariant of the block: it holds at reset and every step keeps it. -/
structure State.Inv (s : State) : Prop where
  /-- Both buffers are in canonical form. -/
  rxWf : s.rx.wf = true
  txWf : s.tx.wf = true
  /-- R25: only implemented bits of `IRQ_EN` are stored. -/
  irqEnImplemented : s.irqEn &&& ~~~irqMask = 0#32
  /-- R35. -/
  tmr15Bounds : s.tmr15.Inv s.t15
  tmr35Bounds : s.tmr35.Inv s.t35
  /-- R7: a session runs only with a legal pair of timeouts. -/
  timeoutsLegal : s.state ≠ .off → 1 ≤ s.t15.toNat ∧ s.t15.toNat < s.t35.toNat
  /-- R37. -/
  cursorInBounds : s.txCur.val ≤ s.txLen.val
  /-- R28. -/
  crcOkOnlyHeld : s.rdRdy = false → s.crcOk = false
  /-- R43. -/
  phase : s.PhaseInv

/-- `t` has every element of R20 as `s` has it, and the same inputs to come: only the outputs of the step may differ. -/
def SameBlock (s t : State) : Prop := t = { s with bus := t.bus, txOut := t.txOut }

/-- R9, `count(C)`: `min(C + 1, 0xFFFF_FFFF)` as numbers. -/
def countedUp (c : Word) : Word := BitVec.ofNat 32 (min (c.toNat + 1) 0xFFFFFFFF)

/-- R76: the 4-aligned offsets that are not reserved. -/
def offsetMapped (off : Nat) : Prop :=
  off % 4 = 0 ∧ ¬ (0x034 ≤ off ∧ off ≤ 0x03C) ∧ ¬ (0x054 ≤ off ∧ off ≤ 0x3FC) ∧ ¬ (0xC00 ≤ off)

/-- R262: the offsets of the read-only registers. -/
def offsetReadOnly (off : Nat) : Prop :=
  off = 0x000 ∨ (0x018 ≤ off ∧ off ≤ 0x028) ∨ (0x040 ≤ off ∧ off ≤ 0x050) ∨ (0x400 ≤ off ∧ off < 0x800)

/-- R141 over a list of bytes: the CRC register after the bytes have been fed in order, from the seed. -/
def crcOfBytes (bs : List Byte) : Half := bs.foldl crcStep 0xFFFF#16

/-- The first `n` bytes of a buffer, in index order. -/
def firstBytes (m : Memory) (n : Nat) : List Byte := (List.range n).map m.read

/-- R140's loop on numbers: `k` shifts right, each XORing 0xA001 when the bit shifted out is 1. -/
def crcShiftsOnNumbers : Nat → Nat → Nat
  | 0, c => c
  | k + 1, c => crcShiftsOnNumbers k (if c % 2 = 1 then (c / 2) ^^^ 0xA001 else c / 2)

/-- The twenty host reads. -/
def isRead : Instr → Bool
  | .rdId | .rdStatus | .rdIrqEn | .rdCmd | .rdT15 | .rdT35 | .rdRxLen | .rdTxLen | .rdTxCur | .rdTmr15
  | .rdTmr35 | .rdCrcValue | .rdCrcData | .rdStatRxFrames | .rdStatTxFrames | .rdStatNoise | .rdStatOverflow
  | .rdStatDropped | .rdRxbuf _ | .rdTxbuf _ => true
  | .cmdNop | .cmdStart | .cmdStop | .cmdRelease | .cmdTxStart _ | .cmdCrcInit | .cmdCrcRx _ | .cmdCrcTx _
  | .cmdClrStats | .wrStatus _ | .wrIrqEn _ | .wrT15 _ | .wrT35 _ | .wrCrcValue _ | .wrCrcData _ | .wrTxbuf _ _
  | .rxByte _ | .tick | .txReady | .reset => false

/-- R75: the writes that are idempotent. -/
def isIdempotentWrite : Instr → Bool
  | .wrStatus _ | .wrIrqEn _ | .wrT15 _ | .wrT35 _ | .wrCrcValue _ | .wrTxbuf _ _ => true
  | .rdId | .rdStatus | .rdIrqEn | .rdCmd | .rdT15 | .rdT35 | .rdRxLen | .rdTxLen | .rdTxCur | .rdTmr15
  | .rdTmr35 | .rdCrcValue | .rdCrcData | .rdStatRxFrames | .rdStatTxFrames | .rdStatNoise | .rdStatOverflow
  | .rdStatDropped | .rdRxbuf _ | .rdTxbuf _ | .cmdNop | .cmdStart | .cmdStop | .cmdRelease | .cmdTxStart _
  | .cmdCrcInit | .cmdCrcRx _ | .cmdCrcTx _ | .cmdClrStats | .wrCrcData _ | .rxByte _ | .tick | .txReady
  | .reset => false

/-- R150: the operations that write `crc`, reset among them. -/
def writesCrc : Instr → Bool
  | .wrCrcValue _ | .wrCrcData _ | .cmdCrcInit | .cmdCrcRx _ | .cmdCrcTx _ | .reset => true
  | .rdId | .rdStatus | .rdIrqEn | .rdCmd | .rdT15 | .rdT35 | .rdRxLen | .rdTxLen | .rdTxCur | .rdTmr15
  | .rdTmr35 | .rdCrcValue | .rdCrcData | .rdStatRxFrames | .rdStatTxFrames | .rdStatNoise | .rdStatOverflow
  | .rdStatDropped | .rdRxbuf _ | .rdTxbuf _ | .cmdNop | .cmdStart | .cmdStop | .cmdRelease | .cmdTxStart _
  | .cmdClrStats | .wrStatus _ | .wrIrqEn _ | .wrT15 _ | .wrT35 _ | .wrTxbuf _ _ | .rxByte _ | .tick
  | .txReady => false

/-- R210: the operations that can end a held frame. -/
def endsHold : Instr → Bool
  | .cmdTxStart _ | .cmdRelease | .cmdStop | .reset => true
  | .rdId | .rdStatus | .rdIrqEn | .rdCmd | .rdT15 | .rdT35 | .rdRxLen | .rdTxLen | .rdTxCur | .rdTmr15
  | .rdTmr35 | .rdCrcValue | .rdCrcData | .rdStatRxFrames | .rdStatTxFrames | .rdStatNoise | .rdStatOverflow
  | .rdStatDropped | .rdRxbuf _ | .rdTxbuf _ | .cmdNop | .cmdStart | .cmdCrcInit | .cmdCrcRx _ | .cmdCrcTx _
  | .cmdClrStats | .wrStatus _ | .wrIrqEn _ | .wrT15 _ | .wrT35 _ | .wrCrcValue _ | .wrCrcData _ | .wrTxbuf _ _
  | .rxByte _ | .tick | .txReady => false

end Sys2Proof.Machine
end

