-- ==== Sys2Proof/Certificates/Slice0/Obligations.lean ====
section
/-! DEFINITION. The statements about the block. Each cites the rule of spec/ it formalises; a statement about an input's
result gives the whole next state, so it is the input's frame and completion too. -/

open Sys2Proof Sys2Proof.Machine

/-! ### Reset and the invariant -/

/-- 10_state.md R42, every element and the outputs. -/
def Obligations.ResetStateHoldsTheResetValues : Prop :=
  let s := State.reset
  s.state = .off ∧ s.rdRdy = false ∧ s.crcOk = false ∧ s.txie = false ∧ s.abandon = false ∧
  s.flags = ⟨false, false, false, false, false, false⟩ ∧ s.irqEn = 0#32 ∧ s.t15 = 0#16 ∧ s.t35 = 0#16 ∧
  s.tmr15 = ⟨false, 0#16⟩ ∧ s.tmr35 = ⟨false, 0#16⟩ ∧ s.rxLen = 0 ∧ (∀ i, s.rx.read i = 0#8) ∧
  s.txLen = 0 ∧ s.txCur = 0 ∧ (∀ i, s.tx.read i = 0#8) ∧ s.crc = 0xFFFF#16 ∧
  s.stats = ⟨0#32, 0#32, 0#32, 0#32, 0#32⟩ ∧ s.irq = false ∧ s.rxEnable = false ∧ s.txValid = false

/-- 70_reset_and_hazards.md R330: in every state, every element takes its reset value. -/
def Obligations.ResetEventResetsEveryElement : Prop :=
  decode 0x6000000000000000#64 = .instr .reset ∧
  ∀ s : State, ∃ t : State, exec .reset s = .next t ∧
    t.state = .off ∧ t.rdRdy = false ∧ t.crcOk = false ∧ t.txie = false ∧ t.abandon = false ∧
    t.flags.txDone = false ∧ t.flags.noise = false ∧ t.flags.rxOvf = false ∧ t.flags.drop = false ∧
    t.flags.cmdErr = false ∧ t.flags.cfgErr = false ∧ t.irqEn = 0#32 ∧ t.t15 = 0#16 ∧ t.t35 = 0#16 ∧
    t.tmr15 = ⟨false, 0#16⟩ ∧ t.tmr35 = ⟨false, 0#16⟩ ∧ t.rxLen = 0 ∧ (∀ i, t.rx.read i = 0#8) ∧
    t.txLen = 0 ∧ t.txCur = 0 ∧ (∀ i, t.tx.read i = 0#8) ∧ t.crc = 0xFFFF#16 ∧
    t.stats.rxFrames = 0#32 ∧ t.stats.txFrames = 0#32 ∧ t.stats.noise = 0#32 ∧ t.stats.overflow = 0#32 ∧
    t.stats.dropped = 0#32 ∧ t.irq = false ∧ t.rxEnable = false ∧ t.txValid = false

/-- The invariant of 10_state.md R25, R28, R35, R37, R43 and 00_scope.md R7 holds at reset. -/
def Obligations.InvariantHoldsAtReset : Prop := State.reset.Inv

/-- 10_state.md R43 (with R25, R28, R35, R37 and 00_scope.md R7): every step keeps the invariant, from every state. The
spec's own inference: "Invariants that hold after every step [derived ...]". -/
def Obligations.EveryStepKeepsTheInvariant : Prop :=
  ∀ s t : State, s.Inv → step s = .next t → t.Inv

/-! ### Encoding and the step -/

/-- The encoder writes the word that the decoder reads, for every well-formed instruction (30_encoding.md section 5). -/
def Obligations.DecodeOfEncodeIsTheInstruction : Prop :=
  ∀ i : Instr, i.wellFormed = true → decode (encode i) = .instr i

/-- Each instruction has one word: a word that decodes to an instruction is the one the encoder writes, and the
instruction is well-formed (30_encoding.md R111). -/
def Obligations.EncodeOfDecodeIsTheWord : Prop :=
  ∀ (w : StimulusWord) (i : Instr), decode w = .instr i → i.wellFormed = true ∧ encode i = w

/-- The example words of 30_encoding.md R106 and R110, and one of each other family. -/
def Obligations.ExampleWordsDecode : Prop :=
  decode 0x2200000C00000001#64 = .instr .cmdStart ∧
  decode 0x2200000C00070004#64 = .instr (.cmdTxStart 7) ∧
  decode 0x2200000C00060006#64 = .instr (.cmdCrcRx 6) ∧
  decode 0x2200000C00050007#64 = .instr (.cmdCrcTx 5) ∧
  decode 0x1200000400000000#64 = .instr .rdStatus ∧
  decode 0x1200041C00000000#64 = .instr (.rdRxbuf 7#8) ∧
  decode 0x2200081000000055#64 = .instr (.wrTxbuf 4#8 0x55#32) ∧
  decode 0x3000000000000084#64 = .instr (.rxByte 0x84#8) ∧
  decode 0x4000000000000000#64 = .instr .tick ∧
  decode 0x5000000000000000#64 = .instr .txReady ∧
  decode 0x6000000000000000#64 = .instr .reset

/-- 00_scope.md R10, 30_encoding.md R111: the step takes the oldest pending word and runs the instruction it decodes to.
That the pending inputs are a list in the state is the model's choice (log 1). -/
def Obligations.StepRunsTheDecodedInstruction : Prop :=
  ∀ (s : State) (w : StimulusWord) (rest : List StimulusWord) (i : Instr),
    s.stimuli = w :: rest → decode w = .instr i → step s = exec i { s with stimuli := rest }

/-- The model's choice (log 2): with no input pending a step changes no element and drives no signal. -/
def Obligations.StepWithNoInputWaits : Prop :=
  ∀ s : State, s.stimuli = [] → step s = .next { s with bus := .noAccess, txOut := none }

/-- 30_encoding.md R110, R111: exactly the words with an invalid KIND or a nonzero reserved or unused field are no
stimulus, and a step at such a word is refused. -/
def Obligations.ExactlyTheInvalidWordsAreRefused : Prop :=
  (∀ w : StimulusWord,
    (∃ e, decode w = .refused e) ↔
      ((w.extractLsb' 60 4).toNat = 0 ∨ 7 ≤ (w.extractLsb' 60 4).toNat ∨
       w.extractLsb' 58 2 ≠ 0#2 ∨ w.extractLsb' 44 12 ≠ 0#12 ∨
       (3 ≤ (w.extractLsb' 60 4).toNat ∧ (w.extractLsb' 56 2 ≠ 0#2 ∨ w.extractLsb' 32 12 ≠ 0#12)) ∨
       ((w.extractLsb' 60 4).toNat ≠ 2 ∧ (w.extractLsb' 60 4).toNat ≠ 3 ∧ w.extractLsb' 0 32 ≠ 0#32) ∨
       ((w.extractLsb' 60 4).toNat = 3 ∧ w.extractLsb' 8 24 ≠ 0#24))) ∧
  ∀ (s : State) (w : StimulusWord) (rest : List StimulusWord) (e : DecodeError),
    s.stimuli = w :: rest → decode w = .refused e → step s = .refused (.invalidStimulus e)

/-- 44_host_access.md R262, R263: which host accesses answer `bus_error`, and that such an access changes no state and
sets no flag; a read returns 0. -/
def Obligations.BusErrorAccessesChangeNothing : Prop :=
  (∀ (size : BitVec 2) (off : Offset),
    decode (0x1#4 ++ 0#2 ++ size ++ 0#12 ++ off ++ 0#32) = .busError false ↔
      ¬ (size = 2#2 ∧ offsetMapped off.toNat)) ∧
  (∀ (size : BitVec 2) (off : Offset) (v : Word),
    decode (0x2#4 ++ 0#2 ++ size ++ 0#12 ++ off ++ v) = .busError true ↔
      ¬ (size = 2#2 ∧ offsetMapped off.toNat) ∨ offsetReadOnly off.toNat) ∧
  (∀ (s : State) (w : StimulusWord) (rest : List StimulusWord),
    s.stimuli = w :: rest → decode w = .busError false →
      step s = .next { s with stimuli := rest, bus := .readError, txOut := none }) ∧
  (∀ (s : State) (w : StimulusWord) (rest : List StimulusWord),
    s.stimuli = w :: rest → decode w = .busError true →
      step s = .next { s with stimuli := rest, bus := .writeError, txOut := none }) ∧
  BusResponse.readError.err = true ∧ BusResponse.writeError.err = true ∧ BusResponse.readError.rdata = some 0#32

/-- 44_host_access.md R269 with R265: which CMD words are illegal, and that such a word only sets `CMD_ERR`. -/
def Obligations.IllegalCommandsOnlySetCmdErr : Prop :=
  (∀ v : Word,
    decode (0x2200000C#32 ++ v) = .illegalCommand ↔
      (v &&& 0xFE00FF00#32 ≠ 0#32 ∨ 9 ≤ (v.extractLsb' 0 8).toNat ∨
       ((v.extractLsb' 0 8).toNat ∈ [0, 1, 2, 3, 5, 8] ∧ v.extractLsb' 16 9 ≠ 0#9))) ∧
  ∀ (s : State) (w : StimulusWord) (rest : List StimulusWord),
    s.stimuli = w :: rest → decode w = .illegalCommand →
      step s = .next { s with
        stimuli := rest, flags := { s.flags with cmdErr := true }, bus := .writeOk, txOut := none }

/-! ### Host reads -/

/-- 44_host_access.md R261 with the STATUS layout of 10_state.md R22, R23: the word that reads each register, and what the
read returns. -/
def Obligations.ReadsReturnTheTable : Prop :=
  decode 0x1200000000000000#64 = .instr .rdId ∧ decode 0x1200000400000000#64 = .instr .rdStatus ∧
  decode 0x1200000800000000#64 = .instr .rdIrqEn ∧ decode 0x1200000C00000000#64 = .instr .rdCmd ∧
  decode 0x1200001000000000#64 = .instr .rdT15 ∧ decode 0x1200001400000000#64 = .instr .rdT35 ∧
  decode 0x1200001800000000#64 = .instr .rdRxLen ∧ decode 0x1200001C00000000#64 = .instr .rdTxLen ∧
  decode 0x1200002000000000#64 = .instr .rdTxCur ∧ decode 0x1200002400000000#64 = .instr .rdTmr15 ∧
  decode 0x1200002800000000#64 = .instr .rdTmr35 ∧ decode 0x1200002C00000000#64 = .instr .rdCrcValue ∧
  decode 0x1200003000000000#64 = .instr .rdCrcData ∧ decode 0x1200004000000000#64 = .instr .rdStatRxFrames ∧
  decode 0x1200004400000000#64 = .instr .rdStatTxFrames ∧ decode 0x1200004800000000#64 = .instr .rdStatNoise ∧
  decode 0x1200004C00000000#64 = .instr .rdStatOverflow ∧ decode 0x1200005000000000#64 = .instr .rdStatDropped ∧
  (∀ i : Byte,
    decode (0x12000#20 ++ (1#2 ++ i ++ 0#2) ++ 0#32) = .instr (.rdRxbuf i) ∧
    decode (0x12000#20 ++ (2#2 ++ i ++ 0#2) ++ 0#32) = .instr (.rdTxbuf i)) ∧
  ∀ s : State,
    exec .rdId s = .next { s with bus := .readOk 0x4D425207#32, txOut := none } ∧
    (∃ w : Word, exec .rdStatus s = .next { s with bus := .readOk w, txOut := none } ∧
      w.extractLsb' 0 3 =
        (match s.state with
         | .off => 0#3 | .init => 1#3 | .idle => 2#3 | .reception => 3#3 | .wait => 4#3 | .emission => 5#3) ∧
      w.getLsbD 3 = s.rdRdy ∧ w.getLsbD 4 = s.crcOk ∧ w.getLsbD 5 = s.txie ∧
      w.getLsbD 6 = decide (s.state ≠ .off ∧ s.state ≠ .emission) ∧ w.getLsbD 7 = s.abandon ∧
      w.getLsbD 8 = s.flags.txDone ∧ w.getLsbD 9 = s.flags.noise ∧ w.getLsbD 10 = s.flags.rxOvf ∧
      w.getLsbD 11 = s.flags.drop ∧ w.getLsbD 12 = s.flags.cmdErr ∧ w.getLsbD 13 = s.flags.cfgErr ∧
      w.extractLsb' 14 18 = 0#18) ∧
    exec .rdIrqEn s = .next { s with bus := .readOk (s.irqEn &&& 0x3F08#32), txOut := none } ∧
    exec .rdCmd s = .next { s with bus := .readOk 0#32, txOut := none } ∧
    exec .rdT15 s = .next { s with bus := .readOk (0#16 ++ s.t15), txOut := none } ∧
    exec .rdT35 s = .next { s with bus := .readOk (0#16 ++ s.t35), txOut := none } ∧
    (∃ w : Word, exec .rdRxLen s = .next { s with bus := .readOk w, txOut := none } ∧ w.toNat = s.rxLen.val) ∧
    (∃ w : Word, exec .rdTxLen s = .next { s with bus := .readOk w, txOut := none } ∧ w.toNat = s.txLen.val) ∧
    (∃ w : Word, exec .rdTxCur s = .next { s with bus := .readOk w, txOut := none } ∧ w.toNat = s.txCur.val) ∧
    (∃ w : Word, exec .rdTmr15 s = .next { s with bus := .readOk w, txOut := none } ∧
      w.toNat = s.tmr15.enabled.toNat * 2 ^ 16 + s.tmr15.count.toNat) ∧
    (∃ w : Word, exec .rdTmr35 s = .next { s with bus := .readOk w, txOut := none } ∧
      w.toNat = s.tmr35.enabled.toNat * 2 ^ 16 + s.tmr35.count.toNat) ∧
    exec .rdCrcValue s = .next { s with bus := .readOk (0#16 ++ s.crc), txOut := none } ∧
    exec .rdCrcData s = .next { s with bus := .readOk 0#32, txOut := none } ∧
    exec .rdStatRxFrames s = .next { s with bus := .readOk s.stats.rxFrames, txOut := none } ∧
    exec .rdStatTxFrames s = .next { s with bus := .readOk s.stats.txFrames, txOut := none } ∧
    exec .rdStatNoise s = .next { s with bus := .readOk s.stats.noise, txOut := none } ∧
    exec .rdStatOverflow s = .next { s with bus := .readOk s.stats.overflow, txOut := none } ∧
    exec .rdStatDropped s = .next { s with bus := .readOk s.stats.dropped, txOut := none } ∧
    (∀ i : Byte, exec (.rdRxbuf i) s =
      .next { s with
        bus := .readOk (if i.toNat < s.rxLen.val then 0#24 ++ s.rx.read i.toNat else 0#32), txOut := none }) ∧
    (∀ i : Byte, exec (.rdTxbuf i) s = .next { s with bus := .readOk (0#24 ++ s.tx.read i.toNat), txOut := none })

/-- 44_host_access.md R270: a byte of the current frame, and 0 at or past `rx_len`. -/
def Obligations.RxbufReadsTheCurrentFrame : Prop :=
  ∀ (s : State) (i : Byte),
    decode (0x12000#20 ++ (1#2 ++ i ++ 0#2) ++ 0#32) = .instr (.rdRxbuf i) ∧
    (i.toNat < s.rxLen.val →
      exec (.rdRxbuf i) s = .next { s with bus := .readOk (0#24 ++ s.rx.read i.toNat), txOut := none }) ∧
    (s.rxLen.val ≤ i.toNat →
      exec (.rdRxbuf i) s = .next { s with bus := .readOk 0#32, txOut := none })

/-- 20_memory.md R75: reads have no side effects and are idempotent; so are the writes it names, and `CMD` and
`CRC_DATA` writes are not. -/
def Obligations.ReadsAndPlainWritesAreIdempotent : Prop :=
  (∀ (i : Instr) (s t : State), isRead i = true → exec i s = .next t → SameBlock s t ∧ exec i t = .next t) ∧
  (∀ (i : Instr) (s t : State), s.tx.wf = true → isIdempotentWrite i = true → exec i s = .next t →
    exec i t = .next t) ∧
  (∃ s t u : State, exec .cmdStart s = .next t ∧ exec .cmdStart t = .next u ∧ u ≠ t) ∧
  (∃ s t u : State, ∃ v : Word, exec (.wrCrcData v) s = .next t ∧ exec (.wrCrcData v) t = .next u ∧ u ≠ t)

/-! ### Host writes -/

/-- 44_host_access.md R264: each written 1 in bits 13:8 clears its sticky flag; nothing else changes. -/
def Obligations.StatusWriteClearsTheNamedFlags : Prop :=
  ∀ (v : Word) (s : State),
    decode (0x22000004#32 ++ v) = .instr (.wrStatus v) ∧
    exec (.wrStatus v) s = .next { s with
      flags := ⟨if v.getLsbD 8 then false else s.flags.txDone, if v.getLsbD 9 then false else s.flags.noise,
        if v.getLsbD 10 then false else s.flags.rxOvf, if v.getLsbD 11 then false else s.flags.drop,
        if v.getLsbD 12 then false else s.flags.cmdErr, if v.getLsbD 13 then false else s.flags.cfgErr⟩,
      bus := .writeOk, txOut := none }

/-- 44_host_access.md R268: the stored mask. A condition that is already pending raises `irq` in the same step, if `v`
enables it. -/
def Obligations.IrqEnWriteStoresTheMask : Prop :=
  ∀ (v : Word) (s : State),
    decode (0x22000008#32 ++ v) = .instr (.wrIrqEn v) ∧
    ∃ t : State, exec (.wrIrqEn v) s = .next t ∧
      t = { s with irqEn := v &&& 0x00003F08#32, bus := .writeOk, txOut := none } ∧
      (t.irq = true ↔ s.status &&& v &&& 0x00003F08#32 ≠ 0#32)

/-- 44_host_access.md R266: a timeout is written in Off and rejected with `CMD_ERR` in every other state. -/
def Obligations.TimeoutWritesOnlyInOff : Prop :=
  ∀ (v : Word) (s : State),
    decode (0x22000010#32 ++ v) = .instr (.wrT15 v) ∧ decode (0x22000014#32 ++ v) = .instr (.wrT35 v) ∧
    (s.state = .off →
      exec (.wrT15 v) s = .next { s with t15 := v.extractLsb' 0 16, bus := .writeOk, txOut := none } ∧
      exec (.wrT35 v) s = .next { s with t35 := v.extractLsb' 0 16, bus := .writeOk, txOut := none }) ∧
    (s.state ≠ .off →
      exec (.wrT15 v) s =
        .next { s with flags := { s.flags with cmdErr := true }, bus := .writeOk, txOut := none } ∧
      exec (.wrT35 v) s =
        .next { s with flags := { s.flags with cmdErr := true }, bus := .writeOk, txOut := none })

/-- 44_host_access.md R267: outside Emission one byte of `tx` takes `v[7:0]` and every other byte and element stays; in
Emission only `CMD_ERR` is set. -/
def Obligations.TxbufWriteStoresOneByte : Prop :=
  ∀ (i : Byte) (v : Word) (s : State),
    decode (0x22000#20 ++ (2#2 ++ i ++ 0#2) ++ v) = .instr (.wrTxbuf i v) ∧
    (s.tx.wf = true → s.state ≠ .emission →
      ∃ m : Memory, exec (.wrTxbuf i v) s = .next { s with tx := m, bus := .writeOk, txOut := none } ∧
        m.wf = true ∧ m.read i.toNat = v.extractLsb' 0 8 ∧ ∀ j, j ≠ i.toNat → m.read j = s.tx.read j) ∧
    (s.state = .emission →
      exec (.wrTxbuf i v) s =
        .next { s with flags := { s.flags with cmdErr := true }, bus := .writeOk, txOut := none })

/-! ### The CRC unit -/

/-- 40_crc.md R144 and R148: `CRC_VALUE` takes `v[15:0]` and reads back zero-extended; `CRC_INIT` is the seed 0xFFFF. -/
def Obligations.CrcValueWritesReadsAndInit : Prop :=
  decode 0x2200000C00000005#64 = .instr .cmdCrcInit ∧ decode 0x1200002C00000000#64 = .instr .rdCrcValue ∧
  ∀ (v : Word) (s : State),
    decode (0x2200002C#32 ++ v) = .instr (.wrCrcValue v) ∧
    exec (.wrCrcValue v) s = .next { s with crc := v.extractLsb' 0 16, bus := .writeOk, txOut := none } ∧
    exec .rdCrcValue s = .next { s with bus := .readOk (0#16 ++ s.crc), txOut := none } ∧
    exec .cmdCrcInit s = .next { s with crc := 0xFFFF#16, bus := .writeOk, txOut := none }

/-- 40_crc.md R145: a `CRC_DATA` write runs one CRC step on `v[7:0]`, R140's loop on numbers. -/
def Obligations.CrcDataFeedsOneByte : Prop :=
  ∀ (v : Word) (s : State),
    decode (0x22000030#32 ++ v) = .instr (.wrCrcData v) ∧
    ∃ c : Half, exec (.wrCrcData v) s = .next { s with crc := c, bus := .writeOk, txOut := none } ∧
      c.toNat = crcShiftsOnNumbers 8 (s.crc.toNat ^^^ (v.toNat % 256))

/-- 40_crc.md R146: the CRC of the first `N` bytes of `rx`, from the seed; `N > rx_len` only sets `CMD_ERR`. -/
def Obligations.CrcRxSumsTheReceivedBytes : Prop :=
  ∀ (n : Nat) (s : State),
    (n < 512 → decode (0x2200000C#32 ++ (0#7 ++ BitVec.ofNat 9 n ++ 0x0006#16)) = .instr (.cmdCrcRx n)) ∧
    (s.rxLen.val < n →
      exec (.cmdCrcRx n) s =
        .next { s with flags := { s.flags with cmdErr := true }, bus := .writeOk, txOut := none }) ∧
    (n ≤ s.rxLen.val →
      exec (.cmdCrcRx n) s = .next { s with crc := crcOfBytes (firstBytes s.rx n), bus := .writeOk, txOut := none })

/-- 40_crc.md R147: the CRC of the first `N` bytes of `tx`, in every state; `N > 256` only sets `CMD_ERR`. -/
def Obligations.CrcTxSumsTheSendBuffer : Prop :=
  ∀ (n : Nat) (s : State),
    (n < 512 → decode (0x2200000C#32 ++ (0#7 ++ BitVec.ofNat 9 n ++ 0x0007#16)) = .instr (.cmdCrcTx n)) ∧
    (256 < n →
      exec (.cmdCrcTx n) s =
        .next { s with flags := { s.flags with cmdErr := true }, bus := .writeOk, txOut := none }) ∧
    (n ≤ 256 →
      exec (.cmdCrcTx n) s = .next { s with crc := crcOfBytes (firstBytes s.tx n), bus := .writeOk, txOut := none })

/-- 40_crc.md R140: one CRC step is the rule's loop of eight shifts, written on numbers, with its corner cases. -/
def Obligations.CrcStepIsTheBitLoop : Prop :=
  (∀ (c : Half) (b : Byte), (crcStep c b).toNat = crcShiftsOnNumbers 8 (c.toNat ^^^ b.toNat)) ∧
  crcStep 0x0000#16 0x00#8 = 0x0000#16 ∧ crcStep 0xFFFF#16 0xFF#8 = 0x00FF#16 ∧ crcStep 0xFFFF#16 0x01#8 = 0x807E#16

/-- 40_crc.md R141: the CRC of a buffer feeds its bytes in index order from the seed. -/
def Obligations.CrcOfABufferFeedsItsBytesInOrder : Prop :=
  (∀ (m : Memory) (n : Nat), crc16 m n = crcOfBytes (firstBytes m n)) ∧ (∀ m : Memory, crc16 m 0 = 0xFFFF#16) ∧
  crcOfBytes [0x01#8, 0x03#8, 0x00#8, 0x00#8, 0x00#8, 0x01#8] = 0x0A84#16

/-- 40_crc.md R143: feeding a CRC's own two bytes, the low one first, leaves 0. The spec's own inference, with its
proof. -/
def Obligations.FeedingTheCrcLeavesNoResidue : Prop :=
  ∀ c : Half, crcStep (crcStep c (c.extractLsb' 0 8)) (c.extractLsb' 8 8) = 0x0000#16

/-- 40_crc.md R142: the CRC step is linear over GF(2). The spec's own inference: "since every operation in it is XOR or a
shift". -/
def Obligations.CrcStepIsLinear : Prop :=
  ∀ (c d : Half) (a b : Byte), crcStep (c ^^^ d) (a ^^^ b) = crcStep c a ^^^ crcStep d b

/-- 40_crc.md R149 with R28, R206: `n` bytes sealed with their CRC, low byte first, and received as one frame complete
with `CRC_OK = 1` when `n >= 2`, and leave residue 0 (R143). The spec's own inference from the source's round trip. -/
def Obligations.SealedFrameIsReceivedWithCrcOk : Prop :=
  ∀ (s : State) (n : Nat), n ≤ 254 → s.rxLen.val = n + 2 → s.state = .wait → s.abandon = false →
    s.tmr15.enabled = false → s.tmr35 = ⟨true, 1#16⟩ →
    s.rx.read n = (crcOfBytes (firstBytes s.rx n)).extractLsb' 0 8 →
    s.rx.read (n + 1) = (crcOfBytes (firstBytes s.rx n)).extractLsb' 8 8 →
      crcOfBytes (firstBytes s.rx (n + 2)) = 0x0000#16 ∧
      ∃ t : State, exec .tick s = .next t ∧ t.rdRdy = true ∧ t.crcOk = decide (2 ≤ n)

/-- 40_crc.md R150: no operation but the CRC unit's and reset writes `crc`, and what any input does to the rest of the
block does not depend on `crc`. The spec's own inference: "no framing rule writes `crc` [derived ...]". -/
def Obligations.FramingDoesNotDependOnTheCrcUnit : Prop :=
  (∀ (i : Instr) (s t : State), writesCrc i = false → exec i s = .next t → t.crc = s.crc) ∧
  (∀ (i : Instr) (s t u : State) (c : Half), exec i s = .next t → exec i { s with crc := c } = .next u →
    u = { t with crc := u.crc, bus := u.bus } ∧ (i ≠ .rdCrcValue → u.bus = t.bus))

/-! ### Session commands -/

/-- 42_receive.md R191. -/
def Obligations.StartEntersInit : Prop :=
  decode 0x2200000C00000001#64 = .instr .cmdStart ∧
  ∀ s : State,
    (s.state ≠ .off →
      exec .cmdStart s =
        .next { s with flags := { s.flags with cmdErr := true }, bus := .writeOk, txOut := none }) ∧
    (s.state = .off → ¬ (1 ≤ s.t15.toNat ∧ s.t15.toNat < s.t35.toNat) →
      exec .cmdStart s =
        .next { s with flags := { s.flags with cfgErr := true }, bus := .writeOk, txOut := none }) ∧
    (s.state = .off → 1 ≤ s.t15.toNat → s.t15.toNat < s.t35.toNat →
      exec .cmdStart s = .next { s with
        state := .init, rxLen := 0, rdRdy := false, crcOk := false, abandon := false, txLen := 0, txCur := 0,
        txie := false, tmr15 := ⟨false, 0#16⟩, tmr35 := ⟨true, s.t35⟩, bus := .writeOk, txOut := none })

/-- 42_receive.md R192. -/
def Obligations.StopEntersOff : Prop :=
  decode 0x2200000C00000002#64 = .instr .cmdStop ∧
  ∀ s : State,
    (s.state = .off → exec .cmdStop s = .next { s with bus := .writeOk, txOut := none }) ∧
    (s.state ≠ .off →
      exec .cmdStop s = .next { s with
        state := .off, rxLen := 0, rdRdy := false, crcOk := false, abandon := false, txLen := 0, txCur := 0,
        txie := false, tmr15 := ⟨false, 0#16⟩, tmr35 := ⟨false, 0#16⟩, bus := .writeOk, txOut := none })

/-- 42_receive.md R208. -/
def Obligations.ReleaseDropsTheHeldFrame : Prop :=
  decode 0x2200000C00000003#64 = .instr .cmdRelease ∧
  ∀ s : State,
    (s.state = .wait → s.rdRdy = true →
      exec .cmdRelease s = .next { s with
        rdRdy := false, crcOk := false, rxLen := 0, state := .idle, bus := .writeOk, txOut := none }) ∧
    (¬ (s.state = .wait ∧ s.rdRdy = true) →
      exec .cmdRelease s =
        .next { s with flags := { s.flags with cmdErr := true }, bus := .writeOk, txOut := none })

/-- 43_transmit.md R231. -/
def Obligations.TxStartQueuesTheResponse : Prop :=
  ∀ (n : Nat) (s : State),
    (n < 512 → decode (0x2200000C#32 ++ (0#7 ++ BitVec.ofNat 9 n ++ 0x0004#16)) = .instr (.cmdTxStart n)) ∧
    (s.state = .wait → s.rdRdy = true → 1 ≤ n → n ≤ 256 →
      ∃ k : Len, k.val = n ∧
        exec (.cmdTxStart n) s = .next { s with
          rdRdy := false, crcOk := false, rxLen := 0, txLen := k, txCur := 0, txie := true, state := .emission,
          bus := .writeOk, txOut := none }) ∧
    (¬ (s.state = .wait ∧ s.rdRdy = true ∧ 1 ≤ n ∧ n ≤ 256) →
      exec (.cmdTxStart n) s =
        .next { s with flags := { s.flags with cmdErr := true }, bus := .writeOk, txOut := none })

/-- 44_host_access.md R272 and R273. -/
def Obligations.NopAndClrStats : Prop :=
  decode 0x2200000C00000000#64 = .instr .cmdNop ∧ decode 0x2200000C00000008#64 = .instr .cmdClrStats ∧
  ∀ s : State,
    exec .cmdNop s = .next { s with bus := .writeOk, txOut := none } ∧
    exec .cmdClrStats s =
      .next { s with stats := ⟨0#32, 0#32, 0#32, 0#32, 0#32⟩, bus := .writeOk, txOut := none }

/-! ### Byte arrival -/

/-- 42_receive.md R200 (Off and Emission) and R197 (Init): the byte is not stored. -/
def Obligations.ByteIsIgnoredOrRestartsInit : Prop :=
  ∀ (b : Byte) (s : State),
    (s.state = .off ∨ s.state = .emission →
      exec (.rxByte b) s = .next { s with bus := .noAccess, txOut := none }) ∧
    (s.state = .init →
      exec (.rxByte b) s = .next { s with tmr35 := ⟨true, s.t35⟩, bus := .noAccess, txOut := none })

/-- 42_receive.md R194: the first byte of a frame. -/
def Obligations.FirstByteStartsTheFrame : Prop :=
  ∀ (b : Byte) (s : State), s.rx.wf = true → s.state = .idle →
    ∃ m : Memory,
      exec (.rxByte b) s = .next { s with
        rx := m, rxLen := 1, tmr15 := ⟨true, s.t15⟩, tmr35 := ⟨true, s.t35⟩, state := .reception,
        bus := .noAccess, txOut := none } ∧
      m.wf = true ∧ m.read 0 = b ∧ ∀ j, j ≠ 0 → m.read j = s.rx.read j

/-- 42_receive.md R195: the next byte of a frame, up to the 256th. -/
def Obligations.NextByteIsStoredAndRestartsBothTimers : Prop :=
  ∀ (b : Byte) (s : State), s.rx.wf = true → s.state = .reception → s.rxLen.val < 256 →
    ∃ (m : Memory) (k : Len),
      exec (.rxByte b) s = .next { s with
        rx := m, rxLen := k, tmr15 := ⟨true, s.t15⟩, tmr35 := ⟨true, s.t35⟩, bus := .noAccess, txOut := none } ∧
      k.val = s.rxLen.val + 1 ∧ m.wf = true ∧ m.read s.rxLen.val = b ∧
      ∀ j, j ≠ s.rxLen.val → m.read j = s.rx.read j

/-- 42_receive.md R203: the 257th byte of a frame. -/
def Obligations.ByteOnAFullBufferDiscardsTheFrame : Prop :=
  ∀ (b : Byte) (s : State), s.state = .reception → s.rxLen.val = 256 →
    exec (.rxByte b) s = .next { s with
      rxLen := 0, tmr15 := ⟨false, 0#16⟩, tmr35 := ⟨false, 0#16⟩, state := .idle,
      flags := { s.flags with rxOvf := true },
      stats := { s.stats with overflow := countedUp s.stats.overflow }, bus := .noAccess, txOut := none }

/-- 42_receive.md R204: a noise byte. -/
def Obligations.NoiseByteAbandonsTheFrame : Prop :=
  ∀ (b : Byte) (s : State), s.state = .wait → s.rdRdy = false →
    exec (.rxByte b) s = .next { s with
      abandon := true, rxLen := 0, tmr35 := ⟨true, s.t35⟩, flags := { s.flags with noise := true },
      stats := { s.stats with noise := countedUp s.stats.noise }, bus := .noAccess, txOut := none }

/-- 42_receive.md R207: a byte while a frame is held. -/
def Obligations.ByteOnAHeldFrameIsDropped : Prop :=
  ∀ (b : Byte) (s : State), s.state = .wait → s.rdRdy = true →
    exec (.rxByte b) s = .next { s with
      flags := { s.flags with drop := true },
      stats := { s.stats with dropped := countedUp s.stats.dropped }, bus := .noAccess, txOut := none }

/-! ### TICK -/

/-- 41_timers.md R172, R174: a TICK in which no timer reaches 0 counts each enabled timer down and changes nothing else;
with both timers disabled it changes nothing. -/
def Obligations.TickCountsTheEnabledTimersDown : Prop :=
  decode 0x4000000000000000#64 = .instr .tick ∧
  ∀ s : State, (s.tmr15.enabled = true → 2 ≤ s.tmr15.count.toNat) →
    (s.tmr35.enabled = true → 2 ≤ s.tmr35.count.toNat) →
    exec .tick s = .next { s with
      tmr15 := if s.tmr15.enabled then ⟨true, s.tmr15.count - 1#16⟩ else s.tmr15,
      tmr35 := if s.tmr35.enabled then ⟨true, s.tmr35.count - 1#16⟩ else s.tmr35,
      bus := .noAccess, txOut := none }

/-- 42_receive.md R196: 1.5-character silence in Reception leads to Wait; `tmr35` keeps running. -/
def Obligations.ShortSilenceInReceptionLeadsToWait : Prop :=
  ∀ s : State, s.state = .reception → s.tmr15 = ⟨true, 1#16⟩ → s.tmr35.enabled = true →
    2 ≤ s.tmr35.count.toNat →
    exec .tick s = .next { s with
      state := .wait, tmr15 := ⟨false, 0#16⟩, tmr35 := ⟨true, s.tmr35.count - 1#16⟩,
      bus := .noAccess, txOut := none }

/-- 42_receive.md R198: 3.5-character silence in Init leads to Idle. -/
def Obligations.LongSilenceInInitLeadsToIdle : Prop :=
  ∀ s : State, s.state = .init → s.tmr15.enabled = false → s.tmr35 = ⟨true, 1#16⟩ →
    exec .tick s = .next { s with state := .idle, tmr35 := ⟨false, 0#16⟩, bus := .noAccess, txOut := none }

/-- 42_receive.md R205: 3.5-character silence after noise leads to Idle. -/
def Obligations.LongSilenceAfterNoiseLeadsToIdle : Prop :=
  ∀ s : State, s.state = .wait → s.abandon = true → s.tmr15.enabled = false → s.tmr35 = ⟨true, 1#16⟩ →
    exec .tick s = .next { s with
      abandon := false, rxLen := 0, state := .idle, tmr35 := ⟨false, 0#16⟩, bus := .noAccess, txOut := none }

/-- 42_receive.md R206 with 10_state.md R28: 3.5-character silence completes the frame. -/
def Obligations.LongSilenceInWaitCompletesTheFrame : Prop :=
  ∀ s : State, s.state = .wait → s.abandon = false → s.tmr15.enabled = false → s.tmr35 = ⟨true, 1#16⟩ →
    exec .tick s = .next { s with
      rdRdy := true,
      crcOk := decide (4 ≤ s.rxLen.val ∧ crcOfBytes (firstBytes s.rx (s.rxLen.val - 2)) =
        s.rx.read (s.rxLen.val - 1) ++ s.rx.read (s.rxLen.val - 2)),
      stats := { s.stats with rxFrames := countedUp s.stats.rxFrames }, tmr35 := ⟨false, 0#16⟩,
      bus := .noAccess, txOut := none }

/-- 43_transmit.md R234: the end of the turnaround. -/
def Obligations.LongSilenceEndsTheEmission : Prop :=
  ∀ s : State, s.state = .emission → s.tmr15.enabled = false → s.tmr35 = ⟨true, 1#16⟩ →
    exec .tick s = .next { s with
      state := .idle, rxLen := 0, flags := { s.flags with txDone := true },
      stats := { s.stats with txFrames := countedUp s.stats.txFrames }, tmr35 := ⟨false, 0#16⟩,
      bus := .noAccess, txOut := none }

/-- 41_timers.md R172 (the order of the two timers in one TICK) and 42_receive.md R199 (an expiry with no transition only
disables its timer). -/
def Obligations.ExpiryOrderAndExpiriesWithoutTransition : Prop :=
  (∀ s : State, s.state = .reception → s.abandon = false → s.tmr15 = ⟨true, 1#16⟩ → s.tmr35 = ⟨true, 1#16⟩ →
    ∃ t : State, exec .tick s = .next t ∧ t.state = .wait ∧ t.rdRdy = true ∧ t.tmr15 = ⟨false, 0#16⟩ ∧
      t.tmr35 = ⟨false, 0#16⟩) ∧
  (∀ s : State, s.state ≠ .reception → s.tmr15 = ⟨true, 1#16⟩ → s.tmr35.enabled = false →
    exec .tick s = .next { s with tmr15 := ⟨false, 0#16⟩, bus := .noAccess, txOut := none }) ∧
  (∀ s : State, s.state = .off ∨ s.state = .idle ∨ s.state = .reception → s.tmr15.enabled = false →
    s.tmr35 = ⟨true, 1#16⟩ →
    exec .tick s = .next { s with tmr35 := ⟨false, 0#16⟩, bus := .noAccess, txOut := none })

/-! ### TX_READY -/

/-- 43_transmit.md R232, R233, R235. -/
def Obligations.TxReadyDrainsThenTurnsAround : Prop :=
  decode 0x5000000000000000#64 = .instr .txReady ∧
  ∀ s : State,
    (s.state = .emission → s.txie = true → s.txCur.val < s.txLen.val →
      ∃ k : Len, k.val = s.txCur.val + 1 ∧
        exec .txReady s = .next { s with
          txCur := k, bus := .noAccess, txOut := some (s.tx.read s.txCur.val) }) ∧
    (s.state = .emission → s.txie = true → s.txLen.val ≤ s.txCur.val →
      exec .txReady s = .next { s with
        txie := false, tmr35 := ⟨true, s.t35⟩, bus := .noAccess, txOut := none }) ∧
    (¬ (s.state = .emission ∧ s.txie = true) →
      exec .txReady s = .next { s with bus := .noAccess, txOut := none })

/-! ### Whole-machine rules -/

/-- 60_exceptions.md R304 with 10_state.md R26, and R31: `irq` is the OR of the enabled pending sources; `rx_enable` is 1
exactly in Init, Idle, Reception and Wait. -/
def Obligations.IrqIsTheOrOfEnabledSources : Prop :=
  ∀ s : State,
    s.irq = ((s.rdRdy && s.irqEn.getLsbD 3) || (s.flags.txDone && s.irqEn.getLsbD 8) ||
      (s.flags.noise && s.irqEn.getLsbD 9) || (s.flags.rxOvf && s.irqEn.getLsbD 10) ||
      (s.flags.drop && s.irqEn.getLsbD 11) || (s.flags.cmdErr && s.irqEn.getLsbD 12) ||
      (s.flags.cfgErr && s.irqEn.getLsbD 13)) ∧
    (s.rxEnable = true ↔
      s.state = .init ∨ s.state = .idle ∨ s.state = .reception ∨ s.state = .wait)

/-- 10_state.md R24, "Only two things clear a sticky flag": a `STATUS` write of 1 to its bit, and reset. -/
def Obligations.OnlyStatusWriteAndResetClearStickyFlags : Prop :=
  ∀ (i : Instr) (s t : State), exec i s = .next t → i ≠ .reset →
    (s.flags.txDone = true → (∀ v, i = .wrStatus v → v.getLsbD 8 = false) → t.flags.txDone = true) ∧
    (s.flags.noise = true → (∀ v, i = .wrStatus v → v.getLsbD 9 = false) → t.flags.noise = true) ∧
    (s.flags.rxOvf = true → (∀ v, i = .wrStatus v → v.getLsbD 10 = false) → t.flags.rxOvf = true) ∧
    (s.flags.drop = true → (∀ v, i = .wrStatus v → v.getLsbD 11 = false) → t.flags.drop = true) ∧
    (s.flags.cmdErr = true → (∀ v, i = .wrStatus v → v.getLsbD 12 = false) → t.flags.cmdErr = true) ∧
    (s.flags.cfgErr = true → (∀ v, i = .wrStatus v → v.getLsbD 13 = false) → t.flags.cfgErr = true)

/-- 10_state.md R40: no input but `CLR_STATS` and reset decreases a counter, and none ever wraps. -/
def Obligations.CountersAreMonotone : Prop :=
  ∀ (i : Instr) (s t : State), exec i s = .next t → i ≠ .reset → i ≠ .cmdClrStats →
    s.stats.rxFrames.toNat ≤ t.stats.rxFrames.toNat ∧ s.stats.txFrames.toNat ≤ t.stats.txFrames.toNat ∧
    s.stats.noise.toNat ≤ t.stats.noise.toNat ∧ s.stats.overflow.toNat ≤ t.stats.overflow.toNat ∧
    s.stats.dropped.toNat ≤ t.stats.dropped.toNat

/-- A held frame stays held until `TX_START`, `RELEASE`, `STOP` or reset (42_receive.md R210). That its bytes stay is the
spec's own inference, 20_memory.md R83, "[derived: from 42_receive.md rules R206, R207]"; that `CRC_OK` stays follows from
10_state.md R28, which computes it only when a frame completes. -/
def Obligations.HeldFrameStaysHeldAndStable : Prop :=
  ∀ (i : Instr) (s t : State), s.Inv → s.held = true → endsHold i = false → exec i s = .next t →
    t.held = true ∧ t.rx = s.rx ∧ t.rxLen = s.rxLen ∧ t.crcOk = s.crcOk

/-- 60_exceptions.md R315 and 43_transmit.md R231: only an accepted `START` leaves Off, and only an accepted `TX_START`,
on a held frame, enters Emission. -/
def Obligations.OnlyStartLeavesOffAndOnlyTxStartEntersEmission : Prop :=
  (∀ (i : Instr) (s t : State), s.state = .off → exec i s = .next t → t.state ≠ .off →
    i = .cmdStart ∧ t.state = .init ∧ 1 ≤ s.t15.toNat ∧ s.t15.toNat < s.t35.toNat) ∧
  (∀ (i : Instr) (s t : State), s.state ≠ .emission → exec i s = .next t → t.state = .emission →
    (∃ n, i = .cmdTxStart n ∧ 1 ≤ n ∧ n ≤ 256) ∧ s.state = .wait ∧ s.rdRdy = true)

/-- 00_scope.md R10: every instruction answers a next state in every state, and a step takes one input. The clauses about
the pending inputs are the model's choice: that they are a list in the state (log 1), that a step with none pending takes
none (log 2), and that `RESET`, like every instruction, leaves those still to come (log 4). -/
def Obligations.EveryInstructionCompletesAndEveryStepTakesOneInput : Prop :=
  (∀ (i : Instr) (s : State), ∃ t : State, exec i s = .next t ∧ t.stimuli = s.stimuli) ∧
  (∀ s t : State, step s = .next t → t.stimuli = s.stimuli.tail)

/-! ### Runs of several inputs -/

/-- 41_timers.md R175 with 42_receive.md R198: in Init a started `tmr35` expires on its `T35`-th TICK, not before.
The spec's own inference: "[derived: from rules R171, R172]". -/
def Obligations.InitEndsOnTheTthTick : Prop :=
  ∀ (s : State) (rest : List StimulusWord), s.state = .init → s.tmr15.enabled = false → s.tmr35 = ⟨true, s.t35⟩ →
    1 ≤ s.t35.toNat → s.stimuli = List.replicate s.t35.toNat (0x4000000000000000#64) ++ rest →
    (∀ k, k < s.t35.toNat → ∃ t : State, Host.Core.run Sys2Proof.core k s = .next t ∧ t.state = .init ∧
      t.tmr35.enabled = true ∧ t.tmr35.count.toNat = s.t35.toNat - k) ∧
    ∃ t : State, Host.Core.run Sys2Proof.core s.t35.toNat s = .next t ∧
      t.state = .idle ∧ t.tmr35 = ⟨false, 0#16⟩ ∧ t.stimuli = rest

/-- 41_timers.md R175 with 42_receive.md R196, R206: after the last byte of a frame the block is in Reception for fewer
than `T15` ticks, in Wait and not yet held from the `T15`-th, and holds the frame, unchanged, at the `T35`-th. The
spec's own inference from R171, R172. -/
def Obligations.FrameIsHeldAfterT35TicksOfSilence : Prop :=
  ∀ (s : State) (rest : List StimulusWord), s.state = .reception → s.rdRdy = false → s.abandon = false →
    s.tmr15 = ⟨true, s.t15⟩ → s.tmr35 = ⟨true, s.t35⟩ → 1 ≤ s.t15.toNat → s.t15.toNat < s.t35.toNat →
    s.stimuli = List.replicate s.t35.toNat (0x4000000000000000#64) ++ rest →
    (∀ k, k < s.t15.toNat → ∃ t : State, Host.Core.run Sys2Proof.core k s = .next t ∧ t.state = .reception ∧
      t.rx = s.rx ∧ t.rxLen = s.rxLen) ∧
    (∀ k, s.t15.toNat ≤ k → k < s.t35.toNat → ∃ t : State, Host.Core.run Sys2Proof.core k s = .next t ∧
      t.state = .wait ∧ t.rdRdy = false ∧ t.rx = s.rx ∧ t.rxLen = s.rxLen) ∧
    ∃ t : State, Host.Core.run Sys2Proof.core s.t35.toNat s = .next t ∧
      t.state = .wait ∧ t.rdRdy = true ∧ t.rx = s.rx ∧ t.rxLen = s.rxLen ∧
      t.stats.rxFrames = countedUp s.stats.rxFrames ∧ t.stimuli = rest

/-- 43_transmit.md R236: an accepted `TX_START N` puts `tx[0]` to `tx[N-1]` on the line, one per `TX_READY`, once each and
in order; the `N + 1`-st `TX_READY` starts the turnaround, in which nothing is emitted; the `T35`-th TICK after it ends
the emission. The spec's own inference: "[derived: from rules R231 to R235]". -/
def Obligations.EmissionPutsExactlyTheResponseOnTheLine : Prop :=
  ∀ (s : State) (n : Nat) (rest : List StimulusWord), s.state = .wait → s.rdRdy = true → 1 ≤ n → n ≤ 256 →
    s.tmr15.enabled = false → s.tmr35.enabled = false → 1 ≤ s.t35.toNat →
    s.stimuli = encode (.cmdTxStart n) :: (List.replicate (n + 1) (0x5000000000000000#64) ++
      List.replicate s.t35.toNat (0x4000000000000000#64) ++ rest) →
    (∃ t : State, Host.Core.run Sys2Proof.core 1 s = .next t ∧ t.state = .emission ∧ t.txOut = none) ∧
    (∀ k, k < n → ∃ t : State, Host.Core.run Sys2Proof.core (k + 2) s = .next t ∧
      t.txOut = some (s.tx.read k) ∧ t.txCur.val = k + 1 ∧ t.state = .emission) ∧
    (∀ k, k < s.t35.toNat → ∃ t : State, Host.Core.run Sys2Proof.core (n + 2 + k) s = .next t ∧
      t.txOut = none ∧ t.state = .emission ∧ t.txie = false ∧ t.tmr35.enabled = true ∧
      t.tmr35.count.toNat = s.t35.toNat - k) ∧
    ∃ t : State, Host.Core.run Sys2Proof.core (n + 2 + s.t35.toNat) s = .next t ∧
      t.txOut = none ∧ t.state = .idle ∧ t.flags.txDone = true ∧ t.txLen.val = n ∧ t.txCur.val = n ∧
      t.stats.txFrames = countedUp s.stats.txFrames ∧ t.tx = s.tx ∧ t.stimuli = rest

/-- 70_reset_and_hazards.md R348: a byte and a tick in the two orders, from `T15 = 2`, `T35 = 4`, Reception with one byte
after one tick. The spec's own inference from R172, R195, R196, R204. -/
def Obligations.OrderOfByteAndTickMatters : Prop :=
  let s : State := { State.reset with
    state := .reception, t15 := 2#16, t35 := 4#16, rx := [(0, 0x01#8)], rxLen := 1,
    tmr15 := ⟨true, 1#16⟩, tmr35 := ⟨true, 3#16⟩ }
  ∃ t u : State,
    Host.Core.run Sys2Proof.core 2 { s with stimuli := [0x3000000000000003#64, 0x4000000000000000#64] } = .next t ∧
    Host.Core.run Sys2Proof.core 2 { s with stimuli := [0x4000000000000000#64, 0x3000000000000003#64] } = .next u ∧
    t.state = .reception ∧ t.rxLen = 2 ∧ t.rx.read 0 = 0x01#8 ∧ t.rx.read 1 = 0x03#8 ∧
    t.tmr15 = ⟨true, 1#16⟩ ∧ t.tmr35 = ⟨true, 3#16⟩ ∧ t.status = 0x00000043#32 ∧
    u.state = .wait ∧ u.abandon = true ∧ u.rxLen = 0 ∧ u.tmr35 = ⟨true, 4#16⟩ ∧ u.status = 0x000002C4#32 ∧
    u.stats.noise = 1#32

/-- 43_transmit.md R236 with 44_host_access.md R267, for every order of inputs: in Emission no instruction but `STOP` and
reset changes `tx` or `tx_len`, and no instruction emits a byte but a `TX_READY` while draining, which emits `tx[tx_cur]`.
Outside Emission nothing is emitted. The spec's own inference: "[derived: from rules R231 to R235]". -/
def Obligations.EmissionKeepsTheResponseAndEmitsOnlyAtTheCursor : Prop :=
  ∀ (i : Instr) (s t : State), exec i s = .next t →
    (s.state = .emission → i ≠ .cmdStop → i ≠ .reset → t.tx = s.tx ∧ t.txLen = s.txLen) ∧
    (∀ b : Byte, t.txOut = some b ↔
      i = .txReady ∧ s.state = .emission ∧ s.txie = true ∧ s.txCur.val < s.txLen.val ∧ b = s.tx.read s.txCur.val) ∧
    (s.state = .emission → i ≠ .cmdStop → i ≠ .reset → t.txOut.isSome = false → t.txCur = s.txCur)
end

