-- ==== Sys2Proof/Laws/Decode.lean ====
section
/-! SUPPORT. The fields of a stimulus word and of a CMD word, as the encoder writes them. -/

namespace Sys2Proof

theorem extract_append_low {n m : Nat} (x : BitVec n) (y : BitVec m) : (x ++ y).extractLsb' 0 m = y := by
  apply BitVec.eq_of_getLsbD_eq; intro i hi
  simp [BitVec.getLsbD_append, hi]

theorem extract_append_high {n m : Nat} (x : BitVec n) (y : BitVec m) (k l : Nat) :
    (x ++ y).extractLsb' (m + k) l = x.extractLsb' k l := by
  apply BitVec.eq_of_getLsbD_eq; intro i hi
  simp [BitVec.getLsbD_append, hi, Nat.add_assoc]

theorem extract_all {n : Nat} (x : BitVec n) : x.extractLsb' 0 n = x := by
  apply BitVec.eq_of_getLsbD_eq; intro i hi
  simp [hi]

variable (k : Kind) (size : BitVec 2) (off : Offset) (data : Word)

@[simp] theorem Kind.ofBits_bits : Kind.ofBits k.bits = some k := by cases k <;> rfl

@[simp] theorem stimData_stimulus : stimData (stimulus k size off data) = data :=
  extract_append_low (k.bits ++ 0#2 ++ size ++ 0#12 ++ off) data

theorem stimulus_above_data (i l : Nat) :
    (stimulus k size off data).extractLsb' (32 + i) l = (k.bits ++ 0#2 ++ size ++ 0#12 ++ off).extractLsb' i l :=
  extract_append_high (k.bits ++ 0#2 ++ size ++ 0#12 ++ off) data i l

@[simp] theorem stimOffset_stimulus : stimOffset (stimulus k size off data) = off :=
  (stimulus_above_data k size off data 0 12).trans (extract_append_low (k.bits ++ 0#2 ++ size ++ 0#12) off)

theorem stimulus_above_offset (i l : Nat) :
    (stimulus k size off data).extractLsb' (44 + i) l = (k.bits ++ 0#2 ++ size ++ 0#12).extractLsb' i l :=
  (congrArg (fun j => (stimulus k size off data).extractLsb' j l) (by omega : 44 + i = 32 + (12 + i))).trans
    ((stimulus_above_data k size off data (12 + i) l).trans
      (extract_append_high (k.bits ++ 0#2 ++ size ++ 0#12) off i l))

@[simp] theorem stimReservedLow_stimulus : stimReservedLow (stimulus k size off data) = 0#12 :=
  (stimulus_above_offset k size off data 0 12).trans (extract_append_low (k.bits ++ 0#2 ++ size) 0#12)

theorem stimulus_above_reserved (i l : Nat) :
    (stimulus k size off data).extractLsb' (56 + i) l = (k.bits ++ 0#2 ++ size).extractLsb' i l :=
  (congrArg (fun j => (stimulus k size off data).extractLsb' j l) (by omega : 56 + i = 44 + (12 + i))).trans
    ((stimulus_above_offset k size off data (12 + i) l).trans
      (extract_append_high (k.bits ++ 0#2 ++ size) 0#12 i l))

@[simp] theorem stimSize_stimulus : stimSize (stimulus k size off data) = size :=
  (stimulus_above_reserved k size off data 0 2).trans (extract_append_low (k.bits ++ 0#2) size)

@[simp] theorem stimReservedHigh_stimulus : stimReservedHigh (stimulus k size off data) = 0#2 :=
  (stimulus_above_reserved k size off data 2 2).trans
    ((extract_append_high (k.bits ++ 0#2) size 0 2).trans (extract_append_low k.bits 0#2))

@[simp] theorem stimKind_stimulus : stimKind (stimulus k size off data) = k.bits :=
  (stimulus_above_reserved k size off data 4 4).trans
    ((extract_append_high (k.bits ++ 0#2) size 2 4).trans
      ((extract_append_high k.bits 0#2 0 4).trans (extract_all k.bits)))

/-! ### The register map -/

/-- R41: each register's offset selects it. -/
@[simp] theorem regAt_offset (r : Reg) : regAt r.offset = some r := by
  cases r with
  | rxbuf i =>
    have h0 : (1#2 ++ i ++ 0#2 : Offset).extractLsb' 0 2 = 0#2 := extract_append_low (1#2 ++ i) 0#2
    have h1 : (1#2 ++ i ++ 0#2 : Offset).extractLsb' 2 8 = i :=
      (extract_append_high (1#2 ++ i) 0#2 0 8).trans (extract_append_low 1#2 i)
    have h2 : (1#2 ++ i ++ 0#2 : Offset).extractLsb' 10 2 = 1#2 :=
      (extract_append_high (1#2 ++ i) 0#2 8 2).trans ((extract_append_high 1#2 i 0 2).trans (extract_all 1#2))
    simp only [Reg.offset, regAt, h0, h1, h2, if_true]
  | txbuf i =>
    have h0 : (2#2 ++ i ++ 0#2 : Offset).extractLsb' 0 2 = 0#2 := extract_append_low (2#2 ++ i) 0#2
    have h1 : (2#2 ++ i ++ 0#2 : Offset).extractLsb' 2 8 = i :=
      (extract_append_high (2#2 ++ i) 0#2 0 8).trans (extract_append_low 2#2 i)
    have h2 : (2#2 ++ i ++ 0#2 : Offset).extractLsb' 10 2 = 2#2 :=
      (extract_append_high (2#2 ++ i) 0#2 8 2).trans ((extract_append_high 2#2 i 0 2).trans (extract_all 2#2))
    simp only [Reg.offset, regAt, h0, h1, h2, if_true]
    rfl
  | _ => rfl

/-! ### The CMD word -/

@[simp] theorem cmdOp_commandWord (op : Byte) (n : Nat) : cmdOp (commandWord op n) = op :=
  extract_append_low (0#7 ++ BitVec.ofNat 9 n ++ 0#8) op

theorem cmdN_commandWord (op : Byte) {n : Nat} (h : n < 512) : cmdN (commandWord op n) = n := by
  have h1 : (commandWord op n).extractLsb' 16 9 = BitVec.ofNat 9 n :=
    (extract_append_high (0#7 ++ BitVec.ofNat 9 n ++ 0#8) op 8 9).trans
      ((extract_append_high (0#7 ++ BitVec.ofNat 9 n) 0#8 0 9).trans (extract_append_low 0#7 (BitVec.ofNat 9 n)))
  rw [cmdN, h1, BitVec.toNat_ofNat]
  omega

end Sys2Proof
end

