-- ==== Sys2Proof/Laws/Memory.lean ====
section
/-! SUPPORT. The buffers: every operation keeps the canonical form, a read after a write, and equal contents are equal
lists. -/

namespace Sys2Proof.Machine

@[simp] theorem Memory.read_nil (a : Nat) : Memory.read [] a = 0#8 := rfl

theorem Memory.read_cell (k : Nat) (b : Byte) (m : Memory) (a : Nat) :
    Memory.read ((k, b) :: m) a = if k = a then b else Memory.read m a := rfl

@[simp] theorem Memory.wfFrom_nil (lo : Nat) : Memory.wfFrom lo [] = true := rfl

theorem Memory.wfFrom_cell (lo k : Nat) (b : Byte) (m : Memory) :
    Memory.wfFrom lo ((k, b) :: m) = true ↔ lo ≤ k ∧ k < 256 ∧ b ≠ 0#8 ∧ Memory.wfFrom (k + 1) m = true := by
  simp [Memory.wfFrom, and_assoc]

/-- A canonical list may start lower. -/
theorem Memory.wfFrom_mono {m : Memory} {lo hi : Nat} (h : Memory.wfFrom hi m = true) (hle : lo ≤ hi) :
    Memory.wfFrom lo m = true := by
  cases m with
  | nil => rfl
  | cons c m =>
    obtain ⟨k, b⟩ := c
    rw [Memory.wfFrom_cell] at *
    exact ⟨by omega, h.2⟩

/-- Below its first index a canonical list reads 0. -/
theorem Memory.read_below {m : Memory} {lo a : Nat} (h : Memory.wfFrom lo m = true) (ha : a < lo) :
    m.read a = 0#8 := by
  induction m generalizing lo with
  | nil => rfl
  | cons c m ih =>
    obtain ⟨k, b⟩ := c
    rw [Memory.wfFrom_cell] at h
    rw [Memory.read_cell, if_neg (by omega)]
    exact ih h.2.2.2 (by omega)

theorem Memory.wfFrom_cons {m : Memory} {lo a : Nat} {b : Byte} (h : Memory.wfFrom (a + 1) m = true)
    (hlo : lo ≤ a) (ha : a < 256) : Memory.wfFrom lo (Memory.cons a b m) = true := by
  unfold Memory.cons
  split
  · exact Memory.wfFrom_mono h (by omega)
  · rename_i hb
    rw [Memory.wfFrom_cell]
    exact ⟨hlo, ha, hb, h⟩

theorem Memory.read_cons {m : Memory} {a : Nat} {b : Byte} (h : Memory.wfFrom (a + 1) m = true) (j : Nat) :
    (Memory.cons a b m).read j = if j = a then b else m.read j := by
  unfold Memory.cons
  split
  · split
    · subst_vars; exact Memory.read_below h (by omega)
    · rfl
  · rw [Memory.read_cell]
    by_cases hj : j = a
    · simp [hj]
    · rw [if_neg (Ne.symm hj), if_neg hj]

/-- A write keeps the canonical form. -/
theorem Memory.wfFrom_write {m : Memory} {lo a : Nat} (b : Byte) (h : Memory.wfFrom lo m = true)
    (hlo : lo ≤ a) (ha : a < 256) : Memory.wfFrom lo (m.write a b) = true := by
  induction m generalizing lo with
  | nil => exact Memory.wfFrom_cons rfl hlo ha
  | cons c m ih =>
    obtain ⟨k, c⟩ := c
    have hk := (Memory.wfFrom_cell ..).1 h
    unfold Memory.write
    split
    · refine Memory.wfFrom_cons ?_ hlo ha
      rw [Memory.wfFrom_cell]
      exact ⟨by omega, hk.2⟩
    · split
      · subst_vars; exact Memory.wfFrom_cons hk.2.2.2 hlo ha
      · rw [Memory.wfFrom_cell]
        exact ⟨hk.1, hk.2.1, hk.2.2.1, ih hk.2.2.2 (by omega)⟩

/-- What a buffer reads after one byte has been written: that byte there, and what it held everywhere else. -/
theorem Memory.read_writeFrom {m : Memory} {lo : Nat} (h : Memory.wfFrom lo m = true) (a : Nat) (b : Byte) (j : Nat) :
    (m.write a b).read j = if j = a then b else m.read j := by
  induction m generalizing lo with
  | nil => exact Memory.read_cons rfl j
  | cons c m ih =>
    obtain ⟨k, c⟩ := c
    have hk := (Memory.wfFrom_cell ..).1 h
    unfold Memory.write
    split
    · refine Memory.read_cons ?_ j
      rw [Memory.wfFrom_cell]
      exact ⟨by omega, hk.2⟩
    · split
      · subst_vars
        rw [Memory.read_cons hk.2.2.2, Memory.read_cell]
        by_cases hj : j = k
        · simp [hj]
        · simp [hj, Ne.symm hj]
      · rw [Memory.read_cell, Memory.read_cell, ih hk.2.2.2]
        by_cases hj : j = a
        · subst hj
          rw [if_neg (by omega), if_pos rfl, if_pos rfl]
        · rw [if_neg hj, if_neg hj]

/-- Every memory operation keeps the canonical form: `write` is the only one that makes a buffer. -/
theorem Memory.wf_write {m : Memory} {a : Nat} (b : Byte) (h : m.wf = true) (ha : a < 256) : (m.write a b).wf = true :=
  Memory.wfFrom_write b h (Nat.zero_le a) ha

theorem Memory.read_write {m : Memory} (h : m.wf = true) (a : Nat) (b : Byte) (j : Nat) :
    (m.write a b).read j = if j = a then b else m.read j :=
  Memory.read_writeFrom h a b j

theorem Memory.wf_reset_rx : State.reset.rx.wf = true := rfl
theorem Memory.wf_reset_tx : State.reset.tx.wf = true := rfl

/-- Two canonical buffers with the same bytes are the same list. -/
theorem Memory.ext_of_wfFrom {m n : Memory} {lo : Nat} (hm : Memory.wfFrom lo m = true) (hn : Memory.wfFrom lo n = true)
    (h : ∀ j, m.read j = n.read j) : m = n := by
  induction m generalizing n lo with
  | nil =>
    cases n with
    | nil => rfl
    | cons c n =>
      obtain ⟨k, b⟩ := c
      have := (Memory.wfFrom_cell ..).1 hn
      have hk := h k
      simp [Memory.read_cell] at hk
      exact absurd hk.symm this.2.2.1
  | cons c m ih =>
    obtain ⟨k, b⟩ := c
    have h1 := (Memory.wfFrom_cell ..).1 hm
    cases n with
    | nil =>
      have hk := h k
      simp [Memory.read_cell] at hk
      exact absurd hk h1.2.2.1
    | cons c n =>
      obtain ⟨l, d⟩ := c
      have h2 := (Memory.wfFrom_cell ..).1 hn
      have hkl : k = l := by
        rcases Nat.lt_trichotomy k l with hlt | heq | hgt
        · have hk := h k
          rw [Memory.read_cell, if_pos rfl, Memory.read_cell, if_neg (by omega),
            Memory.read_below h2.2.2.2 (by omega)] at hk
          exact absurd hk h1.2.2.1
        · exact heq
        · have hl := h l
          rw [Memory.read_cell, if_neg (by omega), Memory.read_cell, if_pos rfl,
            Memory.read_below h1.2.2.2 (by omega)] at hl
          exact absurd hl.symm h2.2.2.1
      subst hkl
      have hb := h k
      rw [Memory.read_cell, if_pos rfl, Memory.read_cell, if_pos rfl] at hb
      subst hb
      congr 1
      refine ih h1.2.2.2 h2.2.2.2 fun j => ?_
      by_cases hj : k = j
      · subst hj
        rw [Memory.read_below h1.2.2.2 (by omega), Memory.read_below h2.2.2.2 (by omega)]
      · have := h j
        rwa [Memory.read_cell, Memory.read_cell, if_neg hj, if_neg hj] at this

theorem Memory.ext_of_wf {m n : Memory} (hm : m.wf = true) (hn : n.wf = true) (h : ∀ j, m.read j = n.read j) : m = n :=
  Memory.ext_of_wfFrom hm hn h

end Sys2Proof.Machine
end

