-- ==== Sys2Proof/Laws/State.lean ====
section
/-! SUPPORT. One lemma per field for each update of the state, so that no proof unfolds a record update. -/

namespace Sys2Proof.Machine

variable (s : State)

/-! ### respond -/

@[simp] theorem State.respond_state (r : BusResponse) : (s.respond r).state = s.state := rfl
@[simp] theorem State.respond_rdRdy (r : BusResponse) : (s.respond r).rdRdy = s.rdRdy := rfl
@[simp] theorem State.respond_crcOk (r : BusResponse) : (s.respond r).crcOk = s.crcOk := rfl
@[simp] theorem State.respond_txie (r : BusResponse) : (s.respond r).txie = s.txie := rfl
@[simp] theorem State.respond_abandon (r : BusResponse) : (s.respond r).abandon = s.abandon := rfl
@[simp] theorem State.respond_flags (r : BusResponse) : (s.respond r).flags = s.flags := rfl
@[simp] theorem State.respond_irqEn (r : BusResponse) : (s.respond r).irqEn = s.irqEn := rfl
@[simp] theorem State.respond_t15 (r : BusResponse) : (s.respond r).t15 = s.t15 := rfl
@[simp] theorem State.respond_t35 (r : BusResponse) : (s.respond r).t35 = s.t35 := rfl
@[simp] theorem State.respond_tmr15 (r : BusResponse) : (s.respond r).tmr15 = s.tmr15 := rfl
@[simp] theorem State.respond_tmr35 (r : BusResponse) : (s.respond r).tmr35 = s.tmr35 := rfl
@[simp] theorem State.respond_rx (r : BusResponse) : (s.respond r).rx = s.rx := rfl
@[simp] theorem State.respond_rxLen (r : BusResponse) : (s.respond r).rxLen = s.rxLen := rfl
@[simp] theorem State.respond_tx (r : BusResponse) : (s.respond r).tx = s.tx := rfl
@[simp] theorem State.respond_txLen (r : BusResponse) : (s.respond r).txLen = s.txLen := rfl
@[simp] theorem State.respond_txCur (r : BusResponse) : (s.respond r).txCur = s.txCur := rfl
@[simp] theorem State.respond_crc (r : BusResponse) : (s.respond r).crc = s.crc := rfl
@[simp] theorem State.respond_stats (r : BusResponse) : (s.respond r).stats = s.stats := rfl
@[simp] theorem State.respond_bus (r : BusResponse) : (s.respond r).bus = r := rfl
@[simp] theorem State.respond_txOut (r : BusResponse) : (s.respond r).txOut = none := rfl
@[simp] theorem State.respond_stimuli (r : BusResponse) : (s.respond r).stimuli = s.stimuli := rfl

/-! ### emit -/

@[simp] theorem State.emit_state (b : Byte) : (s.emit b).state = s.state := rfl
@[simp] theorem State.emit_rdRdy (b : Byte) : (s.emit b).rdRdy = s.rdRdy := rfl
@[simp] theorem State.emit_crcOk (b : Byte) : (s.emit b).crcOk = s.crcOk := rfl
@[simp] theorem State.emit_txie (b : Byte) : (s.emit b).txie = s.txie := rfl
@[simp] theorem State.emit_abandon (b : Byte) : (s.emit b).abandon = s.abandon := rfl
@[simp] theorem State.emit_flags (b : Byte) : (s.emit b).flags = s.flags := rfl
@[simp] theorem State.emit_irqEn (b : Byte) : (s.emit b).irqEn = s.irqEn := rfl
@[simp] theorem State.emit_t15 (b : Byte) : (s.emit b).t15 = s.t15 := rfl
@[simp] theorem State.emit_t35 (b : Byte) : (s.emit b).t35 = s.t35 := rfl
@[simp] theorem State.emit_tmr15 (b : Byte) : (s.emit b).tmr15 = s.tmr15 := rfl
@[simp] theorem State.emit_tmr35 (b : Byte) : (s.emit b).tmr35 = s.tmr35 := rfl
@[simp] theorem State.emit_rx (b : Byte) : (s.emit b).rx = s.rx := rfl
@[simp] theorem State.emit_rxLen (b : Byte) : (s.emit b).rxLen = s.rxLen := rfl
@[simp] theorem State.emit_tx (b : Byte) : (s.emit b).tx = s.tx := rfl
@[simp] theorem State.emit_txLen (b : Byte) : (s.emit b).txLen = s.txLen := rfl
@[simp] theorem State.emit_txCur (b : Byte) : (s.emit b).txCur = s.txCur := rfl
@[simp] theorem State.emit_crc (b : Byte) : (s.emit b).crc = s.crc := rfl
@[simp] theorem State.emit_stats (b : Byte) : (s.emit b).stats = s.stats := rfl
@[simp] theorem State.emit_bus (b : Byte) : (s.emit b).bus = .noAccess := rfl
@[simp] theorem State.emit_txOut (b : Byte) : (s.emit b).txOut = some b := rfl
@[simp] theorem State.emit_stimuli (b : Byte) : (s.emit b).stimuli = s.stimuli := rfl

/-! ### setFlag -/

@[simp] theorem State.setFlag_state (f : StickyFlag) : (s.setFlag f).state = s.state := rfl
@[simp] theorem State.setFlag_rdRdy (f : StickyFlag) : (s.setFlag f).rdRdy = s.rdRdy := rfl
@[simp] theorem State.setFlag_crcOk (f : StickyFlag) : (s.setFlag f).crcOk = s.crcOk := rfl
@[simp] theorem State.setFlag_txie (f : StickyFlag) : (s.setFlag f).txie = s.txie := rfl
@[simp] theorem State.setFlag_abandon (f : StickyFlag) : (s.setFlag f).abandon = s.abandon := rfl
@[simp] theorem State.setFlag_flags (f : StickyFlag) : (s.setFlag f).flags = s.flags.set f := rfl
@[simp] theorem State.setFlag_irqEn (f : StickyFlag) : (s.setFlag f).irqEn = s.irqEn := rfl
@[simp] theorem State.setFlag_t15 (f : StickyFlag) : (s.setFlag f).t15 = s.t15 := rfl
@[simp] theorem State.setFlag_t35 (f : StickyFlag) : (s.setFlag f).t35 = s.t35 := rfl
@[simp] theorem State.setFlag_tmr15 (f : StickyFlag) : (s.setFlag f).tmr15 = s.tmr15 := rfl
@[simp] theorem State.setFlag_tmr35 (f : StickyFlag) : (s.setFlag f).tmr35 = s.tmr35 := rfl
@[simp] theorem State.setFlag_rx (f : StickyFlag) : (s.setFlag f).rx = s.rx := rfl
@[simp] theorem State.setFlag_rxLen (f : StickyFlag) : (s.setFlag f).rxLen = s.rxLen := rfl
@[simp] theorem State.setFlag_tx (f : StickyFlag) : (s.setFlag f).tx = s.tx := rfl
@[simp] theorem State.setFlag_txLen (f : StickyFlag) : (s.setFlag f).txLen = s.txLen := rfl
@[simp] theorem State.setFlag_txCur (f : StickyFlag) : (s.setFlag f).txCur = s.txCur := rfl
@[simp] theorem State.setFlag_crc (f : StickyFlag) : (s.setFlag f).crc = s.crc := rfl
@[simp] theorem State.setFlag_stats (f : StickyFlag) : (s.setFlag f).stats = s.stats := rfl
@[simp] theorem State.setFlag_bus (f : StickyFlag) : (s.setFlag f).bus = s.bus := rfl
@[simp] theorem State.setFlag_txOut (f : StickyFlag) : (s.setFlag f).txOut = s.txOut := rfl
@[simp] theorem State.setFlag_stimuli (f : StickyFlag) : (s.setFlag f).stimuli = s.stimuli := rfl

/-! ### bump -/

@[simp] theorem State.bump_state (c : Counter) : (s.bump c).state = s.state := rfl
@[simp] theorem State.bump_rdRdy (c : Counter) : (s.bump c).rdRdy = s.rdRdy := rfl
@[simp] theorem State.bump_crcOk (c : Counter) : (s.bump c).crcOk = s.crcOk := rfl
@[simp] theorem State.bump_txie (c : Counter) : (s.bump c).txie = s.txie := rfl
@[simp] theorem State.bump_abandon (c : Counter) : (s.bump c).abandon = s.abandon := rfl
@[simp] theorem State.bump_flags (c : Counter) : (s.bump c).flags = s.flags := rfl
@[simp] theorem State.bump_irqEn (c : Counter) : (s.bump c).irqEn = s.irqEn := rfl
@[simp] theorem State.bump_t15 (c : Counter) : (s.bump c).t15 = s.t15 := rfl
@[simp] theorem State.bump_t35 (c : Counter) : (s.bump c).t35 = s.t35 := rfl
@[simp] theorem State.bump_tmr15 (c : Counter) : (s.bump c).tmr15 = s.tmr15 := rfl
@[simp] theorem State.bump_tmr35 (c : Counter) : (s.bump c).tmr35 = s.tmr35 := rfl
@[simp] theorem State.bump_rx (c : Counter) : (s.bump c).rx = s.rx := rfl
@[simp] theorem State.bump_rxLen (c : Counter) : (s.bump c).rxLen = s.rxLen := rfl
@[simp] theorem State.bump_tx (c : Counter) : (s.bump c).tx = s.tx := rfl
@[simp] theorem State.bump_txLen (c : Counter) : (s.bump c).txLen = s.txLen := rfl
@[simp] theorem State.bump_txCur (c : Counter) : (s.bump c).txCur = s.txCur := rfl
@[simp] theorem State.bump_crc (c : Counter) : (s.bump c).crc = s.crc := rfl
@[simp] theorem State.bump_stats (c : Counter) : (s.bump c).stats = s.stats.bump c := rfl
@[simp] theorem State.bump_bus (c : Counter) : (s.bump c).bus = s.bus := rfl
@[simp] theorem State.bump_txOut (c : Counter) : (s.bump c).txOut = s.txOut := rfl
@[simp] theorem State.bump_stimuli (c : Counter) : (s.bump c).stimuli = s.stimuli := rfl

/-! ### startTmr15 -/

@[simp] theorem State.startTmr15_state : s.startTmr15.state = s.state := rfl
@[simp] theorem State.startTmr15_rdRdy : s.startTmr15.rdRdy = s.rdRdy := rfl
@[simp] theorem State.startTmr15_crcOk : s.startTmr15.crcOk = s.crcOk := rfl
@[simp] theorem State.startTmr15_txie : s.startTmr15.txie = s.txie := rfl
@[simp] theorem State.startTmr15_abandon : s.startTmr15.abandon = s.abandon := rfl
@[simp] theorem State.startTmr15_flags : s.startTmr15.flags = s.flags := rfl
@[simp] theorem State.startTmr15_irqEn : s.startTmr15.irqEn = s.irqEn := rfl
@[simp] theorem State.startTmr15_t15 : s.startTmr15.t15 = s.t15 := rfl
@[simp] theorem State.startTmr15_t35 : s.startTmr15.t35 = s.t35 := rfl
@[simp] theorem State.startTmr15_tmr15 : s.startTmr15.tmr15 = ⟨true, s.t15⟩ := rfl
@[simp] theorem State.startTmr15_tmr35 : s.startTmr15.tmr35 = s.tmr35 := rfl
@[simp] theorem State.startTmr15_rx : s.startTmr15.rx = s.rx := rfl
@[simp] theorem State.startTmr15_rxLen : s.startTmr15.rxLen = s.rxLen := rfl
@[simp] theorem State.startTmr15_tx : s.startTmr15.tx = s.tx := rfl
@[simp] theorem State.startTmr15_txLen : s.startTmr15.txLen = s.txLen := rfl
@[simp] theorem State.startTmr15_txCur : s.startTmr15.txCur = s.txCur := rfl
@[simp] theorem State.startTmr15_crc : s.startTmr15.crc = s.crc := rfl
@[simp] theorem State.startTmr15_stats : s.startTmr15.stats = s.stats := rfl
@[simp] theorem State.startTmr15_bus : s.startTmr15.bus = s.bus := rfl
@[simp] theorem State.startTmr15_txOut : s.startTmr15.txOut = s.txOut := rfl
@[simp] theorem State.startTmr15_stimuli : s.startTmr15.stimuli = s.stimuli := rfl

/-! ### startTmr35 -/

@[simp] theorem State.startTmr35_state : s.startTmr35.state = s.state := rfl
@[simp] theorem State.startTmr35_rdRdy : s.startTmr35.rdRdy = s.rdRdy := rfl
@[simp] theorem State.startTmr35_crcOk : s.startTmr35.crcOk = s.crcOk := rfl
@[simp] theorem State.startTmr35_txie : s.startTmr35.txie = s.txie := rfl
@[simp] theorem State.startTmr35_abandon : s.startTmr35.abandon = s.abandon := rfl
@[simp] theorem State.startTmr35_flags : s.startTmr35.flags = s.flags := rfl
@[simp] theorem State.startTmr35_irqEn : s.startTmr35.irqEn = s.irqEn := rfl
@[simp] theorem State.startTmr35_t15 : s.startTmr35.t15 = s.t15 := rfl
@[simp] theorem State.startTmr35_t35 : s.startTmr35.t35 = s.t35 := rfl
@[simp] theorem State.startTmr35_tmr15 : s.startTmr35.tmr15 = s.tmr15 := rfl
@[simp] theorem State.startTmr35_tmr35 : s.startTmr35.tmr35 = ⟨true, s.t35⟩ := rfl
@[simp] theorem State.startTmr35_rx : s.startTmr35.rx = s.rx := rfl
@[simp] theorem State.startTmr35_rxLen : s.startTmr35.rxLen = s.rxLen := rfl
@[simp] theorem State.startTmr35_tx : s.startTmr35.tx = s.tx := rfl
@[simp] theorem State.startTmr35_txLen : s.startTmr35.txLen = s.txLen := rfl
@[simp] theorem State.startTmr35_txCur : s.startTmr35.txCur = s.txCur := rfl
@[simp] theorem State.startTmr35_crc : s.startTmr35.crc = s.crc := rfl
@[simp] theorem State.startTmr35_stats : s.startTmr35.stats = s.stats := rfl
@[simp] theorem State.startTmr35_bus : s.startTmr35.bus = s.bus := rfl
@[simp] theorem State.startTmr35_txOut : s.startTmr35.txOut = s.txOut := rfl
@[simp] theorem State.startTmr35_stimuli : s.startTmr35.stimuli = s.stimuli := rfl

/-! ### stopTmr15 -/

@[simp] theorem State.stopTmr15_state : s.stopTmr15.state = s.state := rfl
@[simp] theorem State.stopTmr15_rdRdy : s.stopTmr15.rdRdy = s.rdRdy := rfl
@[simp] theorem State.stopTmr15_crcOk : s.stopTmr15.crcOk = s.crcOk := rfl
@[simp] theorem State.stopTmr15_txie : s.stopTmr15.txie = s.txie := rfl
@[simp] theorem State.stopTmr15_abandon : s.stopTmr15.abandon = s.abandon := rfl
@[simp] theorem State.stopTmr15_flags : s.stopTmr15.flags = s.flags := rfl
@[simp] theorem State.stopTmr15_irqEn : s.stopTmr15.irqEn = s.irqEn := rfl
@[simp] theorem State.stopTmr15_t15 : s.stopTmr15.t15 = s.t15 := rfl
@[simp] theorem State.stopTmr15_t35 : s.stopTmr15.t35 = s.t35 := rfl
@[simp] theorem State.stopTmr15_tmr15 : s.stopTmr15.tmr15 = ⟨false, 0#16⟩ := rfl
@[simp] theorem State.stopTmr15_tmr35 : s.stopTmr15.tmr35 = s.tmr35 := rfl
@[simp] theorem State.stopTmr15_rx : s.stopTmr15.rx = s.rx := rfl
@[simp] theorem State.stopTmr15_rxLen : s.stopTmr15.rxLen = s.rxLen := rfl
@[simp] theorem State.stopTmr15_tx : s.stopTmr15.tx = s.tx := rfl
@[simp] theorem State.stopTmr15_txLen : s.stopTmr15.txLen = s.txLen := rfl
@[simp] theorem State.stopTmr15_txCur : s.stopTmr15.txCur = s.txCur := rfl
@[simp] theorem State.stopTmr15_crc : s.stopTmr15.crc = s.crc := rfl
@[simp] theorem State.stopTmr15_stats : s.stopTmr15.stats = s.stats := rfl
@[simp] theorem State.stopTmr15_bus : s.stopTmr15.bus = s.bus := rfl
@[simp] theorem State.stopTmr15_txOut : s.stopTmr15.txOut = s.txOut := rfl
@[simp] theorem State.stopTmr15_stimuli : s.stopTmr15.stimuli = s.stimuli := rfl

/-! ### stopTmr35 -/

@[simp] theorem State.stopTmr35_state : s.stopTmr35.state = s.state := rfl
@[simp] theorem State.stopTmr35_rdRdy : s.stopTmr35.rdRdy = s.rdRdy := rfl
@[simp] theorem State.stopTmr35_crcOk : s.stopTmr35.crcOk = s.crcOk := rfl
@[simp] theorem State.stopTmr35_txie : s.stopTmr35.txie = s.txie := rfl
@[simp] theorem State.stopTmr35_abandon : s.stopTmr35.abandon = s.abandon := rfl
@[simp] theorem State.stopTmr35_flags : s.stopTmr35.flags = s.flags := rfl
@[simp] theorem State.stopTmr35_irqEn : s.stopTmr35.irqEn = s.irqEn := rfl
@[simp] theorem State.stopTmr35_t15 : s.stopTmr35.t15 = s.t15 := rfl
@[simp] theorem State.stopTmr35_t35 : s.stopTmr35.t35 = s.t35 := rfl
@[simp] theorem State.stopTmr35_tmr15 : s.stopTmr35.tmr15 = s.tmr15 := rfl
@[simp] theorem State.stopTmr35_tmr35 : s.stopTmr35.tmr35 = ⟨false, 0#16⟩ := rfl
@[simp] theorem State.stopTmr35_rx : s.stopTmr35.rx = s.rx := rfl
@[simp] theorem State.stopTmr35_rxLen : s.stopTmr35.rxLen = s.rxLen := rfl
@[simp] theorem State.stopTmr35_tx : s.stopTmr35.tx = s.tx := rfl
@[simp] theorem State.stopTmr35_txLen : s.stopTmr35.txLen = s.txLen := rfl
@[simp] theorem State.stopTmr35_txCur : s.stopTmr35.txCur = s.txCur := rfl
@[simp] theorem State.stopTmr35_crc : s.stopTmr35.crc = s.crc := rfl
@[simp] theorem State.stopTmr35_stats : s.stopTmr35.stats = s.stats := rfl
@[simp] theorem State.stopTmr35_bus : s.stopTmr35.bus = s.bus := rfl
@[simp] theorem State.stopTmr35_txOut : s.stopTmr35.txOut = s.txOut := rfl
@[simp] theorem State.stopTmr35_stimuli : s.stopTmr35.stimuli = s.stimuli := rfl

/-! ### clearSession -/

@[simp] theorem State.clearSession_state : s.clearSession.state = s.state := rfl
@[simp] theorem State.clearSession_rdRdy : s.clearSession.rdRdy = false := rfl
@[simp] theorem State.clearSession_crcOk : s.clearSession.crcOk = false := rfl
@[simp] theorem State.clearSession_txie : s.clearSession.txie = false := rfl
@[simp] theorem State.clearSession_abandon : s.clearSession.abandon = false := rfl
@[simp] theorem State.clearSession_flags : s.clearSession.flags = s.flags := rfl
@[simp] theorem State.clearSession_irqEn : s.clearSession.irqEn = s.irqEn := rfl
@[simp] theorem State.clearSession_t15 : s.clearSession.t15 = s.t15 := rfl
@[simp] theorem State.clearSession_t35 : s.clearSession.t35 = s.t35 := rfl
@[simp] theorem State.clearSession_tmr15 : s.clearSession.tmr15 = ⟨false, 0#16⟩ := rfl
@[simp] theorem State.clearSession_tmr35 : s.clearSession.tmr35 = s.tmr35 := rfl
@[simp] theorem State.clearSession_rx : s.clearSession.rx = s.rx := rfl
@[simp] theorem State.clearSession_rxLen : s.clearSession.rxLen = 0 := rfl
@[simp] theorem State.clearSession_tx : s.clearSession.tx = s.tx := rfl
@[simp] theorem State.clearSession_txLen : s.clearSession.txLen = 0 := rfl
@[simp] theorem State.clearSession_txCur : s.clearSession.txCur = 0 := rfl
@[simp] theorem State.clearSession_crc : s.clearSession.crc = s.crc := rfl
@[simp] theorem State.clearSession_stats : s.clearSession.stats = s.stats := rfl
@[simp] theorem State.clearSession_bus : s.clearSession.bus = s.bus := rfl
@[simp] theorem State.clearSession_txOut : s.clearSession.txOut = s.txOut := rfl
@[simp] theorem State.clearSession_stimuli : s.clearSession.stimuli = s.stimuli := rfl

/-! ### pushStimulus -/

@[simp] theorem State.pushStimulus_state (w : StimulusWord) : (s.pushStimulus w).state = s.state := rfl
@[simp] theorem State.pushStimulus_rdRdy (w : StimulusWord) : (s.pushStimulus w).rdRdy = s.rdRdy := rfl
@[simp] theorem State.pushStimulus_crcOk (w : StimulusWord) : (s.pushStimulus w).crcOk = s.crcOk := rfl
@[simp] theorem State.pushStimulus_txie (w : StimulusWord) : (s.pushStimulus w).txie = s.txie := rfl
@[simp] theorem State.pushStimulus_abandon (w : StimulusWord) : (s.pushStimulus w).abandon = s.abandon := rfl
@[simp] theorem State.pushStimulus_flags (w : StimulusWord) : (s.pushStimulus w).flags = s.flags := rfl
@[simp] theorem State.pushStimulus_irqEn (w : StimulusWord) : (s.pushStimulus w).irqEn = s.irqEn := rfl
@[simp] theorem State.pushStimulus_t15 (w : StimulusWord) : (s.pushStimulus w).t15 = s.t15 := rfl
@[simp] theorem State.pushStimulus_t35 (w : StimulusWord) : (s.pushStimulus w).t35 = s.t35 := rfl
@[simp] theorem State.pushStimulus_tmr15 (w : StimulusWord) : (s.pushStimulus w).tmr15 = s.tmr15 := rfl
@[simp] theorem State.pushStimulus_tmr35 (w : StimulusWord) : (s.pushStimulus w).tmr35 = s.tmr35 := rfl
@[simp] theorem State.pushStimulus_rx (w : StimulusWord) : (s.pushStimulus w).rx = s.rx := rfl
@[simp] theorem State.pushStimulus_rxLen (w : StimulusWord) : (s.pushStimulus w).rxLen = s.rxLen := rfl
@[simp] theorem State.pushStimulus_tx (w : StimulusWord) : (s.pushStimulus w).tx = s.tx := rfl
@[simp] theorem State.pushStimulus_txLen (w : StimulusWord) : (s.pushStimulus w).txLen = s.txLen := rfl
@[simp] theorem State.pushStimulus_txCur (w : StimulusWord) : (s.pushStimulus w).txCur = s.txCur := rfl
@[simp] theorem State.pushStimulus_crc (w : StimulusWord) : (s.pushStimulus w).crc = s.crc := rfl
@[simp] theorem State.pushStimulus_stats (w : StimulusWord) : (s.pushStimulus w).stats = s.stats := rfl
@[simp] theorem State.pushStimulus_bus (w : StimulusWord) : (s.pushStimulus w).bus = s.bus := rfl
@[simp] theorem State.pushStimulus_txOut (w : StimulusWord) : (s.pushStimulus w).txOut = s.txOut := rfl
@[simp] theorem State.pushStimulus_stimuli (w : StimulusWord) : (s.pushStimulus w).stimuli = w :: s.stimuli := rfl

end Sys2Proof.Machine
end

