-- ==== Sys2Proof/Laws/Ops.lean ====
section
/-! SUPPORT. One lemma for each shared operation: what it can do. -/

namespace Sys2Proof.Machine

/-! ### Lengths -/

theorem Len.val_succ {n : Len} (h : n.val < 256) : (Len.succ n).val = n.val + 1 := by
  simp [Len.succ, h]

theorem Len.val_ofCount {n : Nat} (h : n ≤ 256) : (Len.ofCount n).val = n := by
  simp [Len.ofCount, h]

theorem Len.val_le (n : Len) : n.val ≤ 256 := by have := n.isLt; omega

theorem Len.toNat_view (n : Len) : (Len.view n).toNat = n.val := by
  have := n.isLt
  simp [Len.view]; omega

/-! ### Timers -/

theorem Timer.counted_of_disabled {t : Timer} (h : t.enabled = false) : t.counted = t := by
  simp [Timer.counted, h]

theorem Timer.expires_of_disabled {t : Timer} (h : t.enabled = false) : t.expires = false := by
  simp [Timer.expires, h]

@[simp] theorem Timer.counted_one : Timer.counted ⟨true, 1#16⟩ = ⟨false, 0#16⟩ := by decide

@[simp] theorem Timer.expires_one : Timer.expires ⟨true, 1#16⟩ = true := by decide

theorem Timer.sub_one_ne_zero {c : Half} (h : 2 ≤ c.toNat) : c - 1#16 ≠ 0#16 := by
  intro hc
  have := congrArg BitVec.toNat hc
  rw [BitVec.toNat_sub] at this
  have hlt := c.isLt
  simp at this
  omega

theorem Timer.toNat_sub_one {c : Half} (h : 1 ≤ c.toNat) : (c - 1#16).toNat = c.toNat - 1 := by
  have hlt := c.isLt
  rw [BitVec.toNat_sub]
  simp
  omega

theorem Timer.counted_of_two_le {t : Timer} (he : t.enabled = true) (h : 2 ≤ t.count.toNat) :
    t.counted = ⟨true, t.count - 1#16⟩ := by
  simp [Timer.counted, he, Timer.sub_one_ne_zero h]

theorem Timer.expires_of_two_le {t : Timer} (h : 2 ≤ t.count.toNat) : t.expires = false := by
  simp [Timer.expires, Timer.sub_one_ne_zero h]

/-- A timer that is running expires exactly when its count is 1. -/
theorem Timer.expires_iff {t : Timer} (he : t.enabled = true) (h : 1 ≤ t.count.toNat) :
    t.expires = true ↔ t.count = 1#16 := by
  constructor
  · intro hx
    by_contra hne
    have : 2 ≤ t.count.toNat := by
      have : t.count.toNat ≠ 1 := fun h1 => hne (BitVec.eq_of_toNat_eq h1)
      omega
    rw [Timer.expires_of_two_le this] at hx
    exact absurd hx (by decide)
  · intro hc
    simp [Timer.expires, he, hc]

/-- A timer that starts keeps R35's bounds, if its timeout is at least 1. -/
theorem Timer.inv_started {timeout : Half} (h : 1 ≤ timeout.toNat) : Timer.Inv ⟨true, timeout⟩ timeout :=
  ⟨fun _ => ⟨h, Nat.le_refl _⟩, fun h => Bool.noConfusion h⟩

theorem Timer.inv_stopped (timeout : Half) : Timer.Inv ⟨false, 0#16⟩ timeout :=
  ⟨fun h => Bool.noConfusion h, fun _ => rfl⟩

/-- Counting keeps R35's bounds. -/
theorem Timer.inv_counted {t : Timer} {timeout : Half} (h : t.Inv timeout) : t.counted.Inv timeout := by
  obtain ⟨h1, h2⟩ := h
  unfold Timer.counted
  split
  · rename_i he
    obtain ⟨hlo, hhi⟩ := h1 he
    split
    · exact Timer.inv_stopped timeout
    · rename_i hne
      refine ⟨fun _ => ?_, fun h => Bool.noConfusion h⟩
      rw [Timer.toNat_sub_one hlo]
      have : t.count.toNat ≠ 1 := fun h1 => hne (by rw [BitVec.eq_of_toNat_eq (y := 1#16) h1]; decide)
      omega
  · exact ⟨h1, h2⟩

/-! ### Counters -/

theorem saturatingSucc_eq (c : Word) : saturatingSucc c = countedUp c := by
  unfold saturatingSucc countedUp
  apply BitVec.eq_of_toNat_eq
  have := c.isLt
  split
  · subst_vars; decide
  · rename_i h
    have hne : c.toNat ≠ 0xFFFFFFFF := fun hc => h (BitVec.eq_of_toNat_eq hc)
    rw [BitVec.toNat_add, BitVec.toNat_ofNat]
    simp
    omega

theorem le_saturatingSucc (c : Word) : c.toNat ≤ (saturatingSucc c).toNat := by
  rw [saturatingSucc_eq, countedUp, BitVec.toNat_ofNat]
  have := c.isLt
  omega

/-! ### The answers: each is a next state that differs from its argument in the two outputs only -/

theorem answerRead_next {v : Word} {s t : State} (h : answerRead v s = .next t) :
    t = { s with bus := .readOk v, txOut := none } := by injection h with h; exact h.symm

theorem answerWrite_next {s t : State} (h : answerWrite s = .next t) :
    t = { s with bus := .writeOk, txOut := none } := by injection h with h; exact h.symm

theorem answerEvent_next {s t : State} (h : answerEvent s = .next t) :
    t = { s with bus := .noAccess, txOut := none } := by injection h with h; exact h.symm

theorem answerEmit_next {b : Byte} {s t : State} (h : answerEmit b s = .next t) :
    t = { s with bus := .noAccess, txOut := some b } := by injection h with h; exact h.symm

theorem rejectWrite_next {s t : State} (h : rejectWrite s = .next t) :
    t = { s with flags := { s.flags with cmdErr := true }, bus := .writeOk, txOut := none } := by
  injection h with h; exact h.symm

theorem waitForInput_next {s t : State} (h : waitForInput s = .next t) :
    t = { s with bus := .noAccess, txOut := none } := by injection h with h; exact h.symm

/-- `bus_error` changes the outputs only. -/
theorem busError_next {write : Bool} {s t : State} (h : busError write s = .next t) :
    t = { s with bus := if write then .writeError else .readError, txOut := none } := by
  injection h with h; exact h.symm

theorem fetch_cons {s : State} {w : StimulusWord} {rest : List StimulusWord} (h : s.stimuli = w :: rest) :
    fetch s = some (w, { s with stimuli := rest }) := by simp [fetch, h]

theorem fetch_nil {s : State} (h : s.stimuli = []) : fetch s = none := by simp [fetch, h]

/-! ### The status bits -/

theorem held_iff {s : State} : s.held = true ↔ s.state = .wait ∧ s.rdRdy = true := by
  simp [State.held]

theorem rxEnable_eq (s : State) : s.rxEnable = decide (s.state ≠ .off ∧ s.state ≠ .emission) := by
  unfold State.rxEnable
  cases s.state <;> rfl

theorem timeoutsLegal_iff {s : State} :
    s.timeoutsLegal = true ↔ 1 ≤ s.t15.toNat ∧ s.t15.toNat < s.t35.toNat := by
  simp [State.timeoutsLegal, BitVec.le_def, BitVec.lt_def]

/-! ### The two parts of a TICK -/

/-- What counting `tmr15` does: it moves `tmr15` only, and in Reception its expiry leads to Wait. -/
theorem tickTmr15_cases (s : State) :
    s.tickTmr15 = { s with tmr15 := s.tmr15.counted } ∨
    (s.tmr15.expires = true ∧ s.state = .reception ∧
      s.tickTmr15 = { s with tmr15 := s.tmr15.counted, state := .wait }) := by
  unfold State.tickTmr15
  split
  · rename_i he
    cases hs : s.state <;> simp [State.expireTmr15, he, State.silence15]
  · exact .inl rfl

/-- What counting `tmr35` does: it moves `tmr35`, and its expiry runs the rule of the state it finds. -/
theorem tickTmr35_cases (s : State) :
    s.tickTmr35 = { s with tmr35 := s.tmr35.counted } ∨
    (s.tmr35.expires = true ∧
      ((s.state = .init ∧ s.tickTmr35 = { s with tmr35 := s.tmr35.counted, state := .idle }) ∨
       (s.state = .wait ∧ s.abandon = true ∧
        s.tickTmr35 = { s with tmr35 := s.tmr35.counted, abandon := false, rxLen := 0, state := .idle }) ∨
       (s.state = .wait ∧ s.abandon = false ∧
        s.tickTmr35 = { s with
          tmr35 := s.tmr35.counted, rdRdy := true, crcOk := frameCrcOk s.rx s.rxLen.val,
          stats := s.stats.bump .rxFrames }) ∨
       (s.state = .emission ∧
        s.tickTmr35 = { s with
          tmr35 := s.tmr35.counted, state := .idle, rxLen := 0, flags := s.flags.set .txDone,
          stats := s.stats.bump .txFrames }))) := by
  unfold State.tickTmr35
  split
  · rename_i he
    cases hs : s.state <;> simp [State.expireTmr35, he, State.initDone]
    · cases ha : s.abandon <;> simp [State.abandonDone, State.frameDone, State.bump]
    · simp [State.emissionDone, State.setFlag, State.bump]
  · exact .inl rfl

end Sys2Proof.Machine
end

