-- ==== Sys2Proof/Laws/PerInstr.lean ====
section
/-! SUPPORT. Statements made for every instruction as syntax, one lemma per constructor.
`ReservedBitsZero`: the encoder leaves the reserved fields 59:58 and 55:44 of the stimulus word 0 (30_encoding.md R110). -/

namespace Sys2Proof.Laws

/-- 30_encoding.md R110: the reserved fields of the word the encoder writes are 0. -/
def ReservedBitsZero.Statement (i : Instr) : Prop :=
  (encode i).extractLsb' 58 2 = 0#2 ∧ (encode i).extractLsb' 44 12 = 0#12

theorem reservedBits_stimulus (k : Kind) (size : BitVec 2) (off : Offset) (data : Word) :
    (stimulus k size off data).extractLsb' 58 2 = 0#2 ∧ (stimulus k size off data).extractLsb' 44 12 = 0#12 :=
  ⟨stimReservedHigh_stimulus k size off data, stimReservedLow_stimulus k size off data⟩

theorem ReservedBitsZero.cmdNop : ReservedBitsZero.Statement .cmdNop := reservedBits_stimulus _ _ _ _
theorem ReservedBitsZero.cmdStart : ReservedBitsZero.Statement .cmdStart := reservedBits_stimulus _ _ _ _
theorem ReservedBitsZero.cmdStop : ReservedBitsZero.Statement .cmdStop := reservedBits_stimulus _ _ _ _
theorem ReservedBitsZero.cmdRelease : ReservedBitsZero.Statement .cmdRelease := reservedBits_stimulus _ _ _ _
theorem ReservedBitsZero.cmdTxStart (n : Nat) : ReservedBitsZero.Statement (.cmdTxStart n) := reservedBits_stimulus _ _ _ _
theorem ReservedBitsZero.cmdCrcInit : ReservedBitsZero.Statement .cmdCrcInit := reservedBits_stimulus _ _ _ _
theorem ReservedBitsZero.cmdCrcRx (n : Nat) : ReservedBitsZero.Statement (.cmdCrcRx n) := reservedBits_stimulus _ _ _ _
theorem ReservedBitsZero.cmdCrcTx (n : Nat) : ReservedBitsZero.Statement (.cmdCrcTx n) := reservedBits_stimulus _ _ _ _
theorem ReservedBitsZero.cmdClrStats : ReservedBitsZero.Statement .cmdClrStats := reservedBits_stimulus _ _ _ _
theorem ReservedBitsZero.rdId : ReservedBitsZero.Statement .rdId := reservedBits_stimulus _ _ _ _
theorem ReservedBitsZero.rdStatus : ReservedBitsZero.Statement .rdStatus := reservedBits_stimulus _ _ _ _
theorem ReservedBitsZero.rdIrqEn : ReservedBitsZero.Statement .rdIrqEn := reservedBits_stimulus _ _ _ _
theorem ReservedBitsZero.rdCmd : ReservedBitsZero.Statement .rdCmd := reservedBits_stimulus _ _ _ _
theorem ReservedBitsZero.rdT15 : ReservedBitsZero.Statement .rdT15 := reservedBits_stimulus _ _ _ _
theorem ReservedBitsZero.rdT35 : ReservedBitsZero.Statement .rdT35 := reservedBits_stimulus _ _ _ _
theorem ReservedBitsZero.rdRxLen : ReservedBitsZero.Statement .rdRxLen := reservedBits_stimulus _ _ _ _
theorem ReservedBitsZero.rdTxLen : ReservedBitsZero.Statement .rdTxLen := reservedBits_stimulus _ _ _ _
theorem ReservedBitsZero.rdTxCur : ReservedBitsZero.Statement .rdTxCur := reservedBits_stimulus _ _ _ _
theorem ReservedBitsZero.rdTmr15 : ReservedBitsZero.Statement .rdTmr15 := reservedBits_stimulus _ _ _ _
theorem ReservedBitsZero.rdTmr35 : ReservedBitsZero.Statement .rdTmr35 := reservedBits_stimulus _ _ _ _
theorem ReservedBitsZero.rdCrcValue : ReservedBitsZero.Statement .rdCrcValue := reservedBits_stimulus _ _ _ _
theorem ReservedBitsZero.rdCrcData : ReservedBitsZero.Statement .rdCrcData := reservedBits_stimulus _ _ _ _
theorem ReservedBitsZero.rdStatRxFrames : ReservedBitsZero.Statement .rdStatRxFrames := reservedBits_stimulus _ _ _ _
theorem ReservedBitsZero.rdStatTxFrames : ReservedBitsZero.Statement .rdStatTxFrames := reservedBits_stimulus _ _ _ _
theorem ReservedBitsZero.rdStatNoise : ReservedBitsZero.Statement .rdStatNoise := reservedBits_stimulus _ _ _ _
theorem ReservedBitsZero.rdStatOverflow : ReservedBitsZero.Statement .rdStatOverflow := reservedBits_stimulus _ _ _ _
theorem ReservedBitsZero.rdStatDropped : ReservedBitsZero.Statement .rdStatDropped := reservedBits_stimulus _ _ _ _
theorem ReservedBitsZero.wrStatus (v : Word) : ReservedBitsZero.Statement (.wrStatus v) := reservedBits_stimulus _ _ _ _
theorem ReservedBitsZero.wrIrqEn (v : Word) : ReservedBitsZero.Statement (.wrIrqEn v) := reservedBits_stimulus _ _ _ _
theorem ReservedBitsZero.wrT15 (v : Word) : ReservedBitsZero.Statement (.wrT15 v) := reservedBits_stimulus _ _ _ _
theorem ReservedBitsZero.wrT35 (v : Word) : ReservedBitsZero.Statement (.wrT35 v) := reservedBits_stimulus _ _ _ _
theorem ReservedBitsZero.wrCrcValue (v : Word) : ReservedBitsZero.Statement (.wrCrcValue v) := reservedBits_stimulus _ _ _ _
theorem ReservedBitsZero.wrCrcData (v : Word) : ReservedBitsZero.Statement (.wrCrcData v) := reservedBits_stimulus _ _ _ _
theorem ReservedBitsZero.rdRxbuf (i : Byte) : ReservedBitsZero.Statement (.rdRxbuf i) := reservedBits_stimulus _ _ _ _
theorem ReservedBitsZero.rdTxbuf (i : Byte) : ReservedBitsZero.Statement (.rdTxbuf i) := reservedBits_stimulus _ _ _ _
theorem ReservedBitsZero.wrTxbuf (i : Byte) (v : Word) : ReservedBitsZero.Statement (.wrTxbuf i v) := reservedBits_stimulus _ _ _ _
theorem ReservedBitsZero.rxByte (b : Byte) : ReservedBitsZero.Statement (.rxByte b) := reservedBits_stimulus _ _ _ _
theorem ReservedBitsZero.tick : ReservedBitsZero.Statement .tick := reservedBits_stimulus _ _ _ _
theorem ReservedBitsZero.txReady : ReservedBitsZero.Statement .txReady := reservedBits_stimulus _ _ _ _
theorem ReservedBitsZero.reset : ReservedBitsZero.Statement .reset := reservedBits_stimulus _ _ _ _

end Sys2Proof.Laws
end

