-- ==== Sys2Proof/Tests/Slice0.lean ====
section
/-! SUPPORT. Tests: a word of the spec's encoding for every constructor, one step per operation with the result that
spec/95_test_vectors.md or the named rule gives, and a witness for the hypotheses of every statement. -/

namespace Sys2Proof.Tests

open Sys2Proof.Machine

/-! ### Well-formedness: each check refuses an ill-formed term -/

theorem test_txStart_count_too_large : Instr.wellFormed (.cmdTxStart 512) = false := by decide
theorem test_crcRx_count_too_large : Instr.wellFormed (.cmdCrcRx 512) = false := by decide
theorem test_crcTx_count_too_large : Instr.wellFormed (.cmdCrcTx 512) = false := by decide

/-! ### Decoding: the words are written from 30_encoding.md R104, R106, R110 and 10_state.md R41 -/

theorem test_decode_cmdNop : decode 0x2200000C00000000#64 = .instr .cmdNop := by decide
theorem test_decode_cmdStart : decode 0x2200000C00000001#64 = .instr .cmdStart := by decide
theorem test_decode_cmdStop : decode 0x2200000C00000002#64 = .instr .cmdStop := by decide
theorem test_decode_cmdRelease : decode 0x2200000C00000003#64 = .instr .cmdRelease := by decide
theorem test_decode_cmdTxStart : decode 0x2200000C01000004#64 = .instr (.cmdTxStart 256) := by decide
theorem test_decode_cmdCrcInit : decode 0x2200000C00000005#64 = .instr .cmdCrcInit := by decide
theorem test_decode_cmdCrcRx : decode 0x2200000C00060006#64 = .instr (.cmdCrcRx 6) := by decide
theorem test_decode_cmdCrcTx : decode 0x2200000C01010007#64 = .instr (.cmdCrcTx 257) := by decide
theorem test_decode_cmdClrStats : decode 0x2200000C00000008#64 = .instr .cmdClrStats := by decide
theorem test_decode_rdId : decode 0x1200000000000000#64 = .instr .rdId := by decide
theorem test_decode_rdStatus : decode 0x1200000400000000#64 = .instr .rdStatus := by decide
theorem test_decode_rdIrqEn : decode 0x1200000800000000#64 = .instr .rdIrqEn := by decide
theorem test_decode_rdCmd : decode 0x1200000C00000000#64 = .instr .rdCmd := by decide
theorem test_decode_rdT15 : decode 0x1200001000000000#64 = .instr .rdT15 := by decide
theorem test_decode_rdT35 : decode 0x1200001400000000#64 = .instr .rdT35 := by decide
theorem test_decode_rdRxLen : decode 0x1200001800000000#64 = .instr .rdRxLen := by decide
theorem test_decode_rdTxLen : decode 0x1200001C00000000#64 = .instr .rdTxLen := by decide
theorem test_decode_rdTxCur : decode 0x1200002000000000#64 = .instr .rdTxCur := by decide
theorem test_decode_rdTmr15 : decode 0x1200002400000000#64 = .instr .rdTmr15 := by decide
theorem test_decode_rdTmr35 : decode 0x1200002800000000#64 = .instr .rdTmr35 := by decide
theorem test_decode_rdCrcValue : decode 0x1200002C00000000#64 = .instr .rdCrcValue := by decide
theorem test_decode_rdCrcData : decode 0x1200003000000000#64 = .instr .rdCrcData := by decide
theorem test_decode_rdStatRxFrames : decode 0x1200004000000000#64 = .instr .rdStatRxFrames := by decide
theorem test_decode_rdStatTxFrames : decode 0x1200004400000000#64 = .instr .rdStatTxFrames := by decide
theorem test_decode_rdStatNoise : decode 0x1200004800000000#64 = .instr .rdStatNoise := by decide
theorem test_decode_rdStatOverflow : decode 0x1200004C00000000#64 = .instr .rdStatOverflow := by decide
theorem test_decode_rdStatDropped : decode 0x1200005000000000#64 = .instr .rdStatDropped := by decide
theorem test_decode_wrStatus : decode 0x22000004FFFFFFFF#64 = .instr (.wrStatus 0xFFFFFFFF#32) := by decide
theorem test_decode_wrIrqEn : decode 0x2200000800001108#64 = .instr (.wrIrqEn 0x1108#32) := by decide
theorem test_decode_wrT15 : decode 0x2200001000012345#64 = .instr (.wrT15 0x12345#32) := by decide
theorem test_decode_wrT35 : decode 0x2200001400000004#64 = .instr (.wrT35 4#32) := by decide
theorem test_decode_wrCrcValue : decode 0x2200002C00011234#64 = .instr (.wrCrcValue 0x11234#32) := by decide
theorem test_decode_wrCrcData : decode 0x22000030FFFFFF56#64 = .instr (.wrCrcData 0xFFFFFF56#32) := by decide
theorem test_decode_rdRxbuf : decode 0x1200041C00000000#64 = .instr (.rdRxbuf 7#8) := by decide
theorem test_decode_rdTxbuf : decode 0x12000BFC00000000#64 = .instr (.rdTxbuf 255#8) := by decide
theorem test_decode_wrTxbuf : decode 0x22000818000001AB#64 = .instr (.wrTxbuf 6#8 0x1AB#32) := by decide
theorem test_decode_rxByte : decode 0x3000000000000084#64 = .instr (.rxByte 0x84#8) := by decide
theorem test_decode_tick : decode 0x4000000000000000#64 = .instr .tick := by decide
theorem test_decode_txReady : decode 0x5000000000000000#64 = .instr .txReady := by decide
theorem test_decode_reset : decode 0x6000000000000000#64 = .instr .reset := by decide

/-! 44_host_access.md R262, R263: the examples of the rules and of vectors A2 to A5. -/

theorem test_decode_unaligned : decode 0x1200000200000000#64 = .busError false := by decide
theorem test_decode_halfword_read : decode 0x1100000400000000#64 = .busError false := by decide
theorem test_decode_byte_read : decode 0x1000000000000000#64 = .busError false := by decide
theorem test_decode_reserved_0x038 : decode 0x1200003800000000#64 = .busError false := by decide
theorem test_decode_reserved_0x054 : decode 0x1200005400000000#64 = .busError false := by decide
theorem test_decode_reserved_0xFFC : decode 0x12000FFC00000000#64 = .busError false := by decide
theorem test_decode_write_id : decode 0x2200000000000001#64 = .busError true := by decide
theorem test_decode_write_rxbuf : decode 0x2200040000000001#64 = .busError true := by decide
theorem test_decode_write_stat_noise : decode 0x2200004800000001#64 = .busError true := by decide

/-! 44_host_access.md R269: vectors A6 to A9, A20. -/

theorem test_decode_opcode_9 : decode 0x2200000C00000009#64 = .illegalCommand := by decide
theorem test_decode_start_with_operand : decode 0x2200000C00010001#64 = .illegalCommand := by decide
theorem test_decode_reserved_bit_8 : decode 0x2200000C00000101#64 = .illegalCommand := by decide
theorem test_decode_reserved_bit_31 : decode 0x2200000C80000005#64 = .illegalCommand := by decide

/-! 30_encoding.md R110, R111: words that are no stimulus. -/

theorem test_decode_kind_0 : decode 0x0200000000000000#64 = .refused .invalidKind := by decide
theorem test_decode_kind_7 : decode 0x7000000000000000#64 = .refused .invalidKind := by decide
theorem test_decode_reserved_high : decode 0x4400000000000000#64 = .refused .reservedNonzero := by decide
theorem test_decode_reserved_low : decode 0x1200100000000000#64 = .refused .reservedNonzero := by decide
theorem test_decode_event_with_size : decode 0x4200000000000000#64 = .refused .unusedSizeNonzero := by decide
theorem test_decode_event_with_offset : decode 0x5000000400000000#64 = .refused .unusedOffsetNonzero := by decide
theorem test_decode_rx_byte_9_bits : decode 0x3000000000000100#64 = .refused .unusedDataNonzero := by decide
theorem test_decode_read_with_data : decode 0x1200000000000001#64 = .refused .unusedDataNonzero := by decide

/-! ### Small states: the start states of spec/95_test_vectors.md, each with `T15 = 2`, `T35 = 4` -/

def configured : State := { State.reset with t15 := 2#16, t35 := 4#16 }
def inInit : State := { configured with state := .init, tmr35 := ⟨true, 4#16⟩ }
def inIdle : State := { configured with state := .idle }
def inReception : State :=
  { configured with state := .reception, rx := [(0, 0x01#8)], rxLen := 1, tmr15 := ⟨true, 2#16⟩, tmr35 := ⟨true, 4#16⟩ }
def inWait : State :=
  { configured with state := .wait, rx := [(0, 0x01#8), (1, 0x03#8)], rxLen := 2, tmr35 := ⟨true, 2#16⟩ }
/-- The request `01 03 00 00 00 01 84 0A`, held. -/
def inHeld : State :=
  { configured with
    state := .wait, rx := [(0, 0x01#8), (1, 0x03#8), (5, 0x01#8), (6, 0x84#8), (7, 0x0A#8)], rxLen := 8,
    rdRdy := true, crcOk := true }
def inEmission : State :=
  { configured with
    state := .emission, tx := [(0, 0x11#8), (1, 0x22#8), (2, 0x33#8)], txLen := 3, txie := true }

def next? (o : Host.Outcome State Fault Refusal) : Option State :=
  match o with
  | .next t => some t
  | .fault _ => none
  | .refused _ => none

/-- The read data that one operation returns. -/
def reads (i : Instr) (s : State) : Option Word :=
  match next? (exec i s) with
  | some t => t.bus.rdata
  | none => none

/-- `STATUS` after one operation. -/
def statusAfter (i : Instr) (s : State) : Option Word := (next? (exec i s)).map State.status

/-! ### Reads (44_host_access.md R261, R270) -/

theorem test_read_id : reads .rdId State.reset = some 0x4D425207#32 := by decide
theorem test_read_status_held : reads .rdStatus inHeld = some 0x5C#32 := by decide
theorem test_read_status_emission : reads .rdStatus inEmission = some 0x25#32 := by decide
theorem test_read_irq_en_reserved_bits : reads .rdIrqEn { State.reset with irqEn := 0xFFFFFFFF#32 } = some 0x3F08#32 := by
  decide
theorem test_read_cmd : reads .rdCmd inHeld = some 0#32 := by decide
theorem test_read_t15 : reads .rdT15 configured = some 2#32 := by decide
theorem test_read_t35 : reads .rdT35 configured = some 4#32 := by decide
theorem test_read_rx_len : reads .rdRxLen inHeld = some 8#32 := by decide
theorem test_read_tx_len : reads .rdTxLen inEmission = some 3#32 := by decide
theorem test_read_tx_cur : reads .rdTxCur { inEmission with txCur := 2 } = some 2#32 := by decide
theorem test_read_tmr15 : reads .rdTmr15 inReception = some 0x00010002#32 := by decide
theorem test_read_tmr35 : reads .rdTmr35 inInit = some 0x00010004#32 := by decide
theorem test_read_crc_value : reads .rdCrcValue State.reset = some 0xFFFF#32 := by decide
theorem test_read_crc_data : reads .rdCrcData State.reset = some 0#32 := by decide
theorem test_read_stat_rx_frames :
    reads .rdStatRxFrames { inHeld with stats := ⟨1#32, 2#32, 3#32, 4#32, 5#32⟩ } = some 1#32 := by decide
theorem test_read_stat_tx_frames :
    reads .rdStatTxFrames { inHeld with stats := ⟨1#32, 2#32, 3#32, 4#32, 5#32⟩ } = some 2#32 := by decide
theorem test_read_stat_noise :
    reads .rdStatNoise { inHeld with stats := ⟨1#32, 2#32, 3#32, 4#32, 5#32⟩ } = some 3#32 := by decide
theorem test_read_stat_overflow :
    reads .rdStatOverflow { inHeld with stats := ⟨1#32, 2#32, 3#32, 4#32, 5#32⟩ } = some 4#32 := by decide
theorem test_read_stat_dropped :
    reads .rdStatDropped { inHeld with stats := ⟨1#32, 2#32, 3#32, 4#32, 5#32⟩ } = some 5#32 := by decide
theorem test_read_rxbuf_in_frame : reads (.rdRxbuf 6#8) inHeld = some 0x84#32 := by decide
theorem test_read_rxbuf_past_frame : reads (.rdRxbuf 7#8) { inHeld with rxLen := 7 } = some 0#32 := by decide
theorem test_read_txbuf : reads (.rdTxbuf 2#8) inEmission = some 0x33#32 := by decide

/-! ### Writes -/

/-- R264's example. -/
theorem test_write_status : statusAfter (.wrStatus 0x1FF#32)
    { inIdle with flags := ⟨true, false, false, false, false, false⟩ } = some 0x42#32 := by decide
/-- Vector A12. -/
theorem test_write_irq_en : (next? (exec (.wrIrqEn 0xFFFFFFFF#32) inHeld)).map (fun t => (t.irqEn, t.irq)) =
    some (0x3F08#32, true) := by decide
/-- Vector A11. -/
theorem test_write_t15 : (next? (exec (.wrT15 0x12345#32) State.reset)).map State.t15 = some 0x2345#16 := by decide
/-- R266's example. -/
theorem test_write_t15_in_init : (next? (exec (.wrT15 7#32) inInit)).map (fun t => (t.t15, t.status)) =
    some (2#16, 0x1041#32) := by decide
theorem test_write_t35 : (next? (exec (.wrT35 9#32) State.reset)).map (fun t => (t.t15, t.t35)) =
    some (0#16, 9#16) := by decide
/-- Vector U3. -/
theorem test_write_crc_value : (next? (exec (.wrCrcValue 0x00011234#32) State.reset)).map State.crc = some 0x1234#16 := by
  decide
/-- Vector U4. -/
theorem test_write_crc_data : (next? (exec (.wrCrcData 0xFFFFFF56#32) { State.reset with crc := 0x1234#16 })).map State.crc =
    some 0xE993#16 := by decide
/-- Vector A16. -/
theorem test_write_txbuf : (next? (exec (.wrTxbuf 255#8 0x1AB#32) State.reset)).map State.tx = some [(255, 0xAB#8)] := by
  decide
/-- Vector E9. -/
theorem test_write_txbuf_in_emission : (next? (exec (.wrTxbuf 0#8 0x55#32) inEmission)).map
    (fun t => (t.tx.read 0, t.status)) = some (0x11#8, 0x1025#32) := by decide

/-! ### Commands -/

theorem test_nop : statusAfter .cmdNop inHeld = some 0x5C#32 := by decide
/-- R191's example. -/
theorem test_start : (next? (exec .cmdStart configured)).map (fun t => (t.status, t.tmr35)) =
    some (0x41#32, ⟨true, 4#16⟩) := by decide
/-- Vector X20. -/
theorem test_start_unconfigured : statusAfter .cmdStart State.reset = some 0x2000#32 := by decide
/-- R192's example. -/
theorem test_stop : (next? (exec .cmdStop { inEmission with txCur := 2 })).map
    (fun t => (t.status, t.txLen, t.txCur, t.tx.read 0)) = some (0#32, 0, 0, 0x11#8) := by decide
/-- Vector X12. -/
theorem test_release : (next? (exec .cmdRelease inHeld)).map (fun t => (t.status, t.rxLen)) = some (0x42#32, 0) := by decide
/-- Vector X14. -/
theorem test_release_nothing_held : statusAfter .cmdRelease inWait = some 0x1044#32 := by decide
/-- Vector E1. -/
theorem test_tx_start : (next? (exec (.cmdTxStart 3) inHeld)).map (fun t => (t.status, t.txLen, t.rxLen)) =
    some (0x25#32, 3, 0) := by decide
/-- Vector E3. -/
theorem test_tx_start_too_long : statusAfter (.cmdTxStart 257) inHeld = some 0x105C#32 := by decide
theorem test_crc_init : (next? (exec .cmdCrcInit { State.reset with crc := 0x1234#16 })).map State.crc = some 0xFFFF#16 := by
  decide
/-- Vector U14. -/
theorem test_crc_rx : (next? (exec (.cmdCrcRx 6) inHeld)).map State.crc = some 0x0A84#16 := by decide +kernel
/-- Vector U16. -/
theorem test_crc_rx_past_frame : statusAfter (.cmdCrcRx 9) inHeld = some 0x105C#32 := by decide
/-- Vector U17. -/
theorem test_crc_tx : (next? (exec (.cmdCrcTx 3) inEmission)).map State.crc = some 0x7079#16 := by decide +kernel
/-- Vector U11. -/
theorem test_crc_tx_too_long : statusAfter (.cmdCrcTx 257) State.reset = some 0x1000#32 := by decide
theorem test_clr_stats : (next? (exec .cmdClrStats { inHeld with stats := ⟨1#32, 2#32, 3#32, 4#32, 5#32⟩ })).map State.stats =
    some ⟨0#32, 0#32, 0#32, 0#32, 0#32⟩ := by decide

/-! ### Events -/

/-- Vector X11. -/
theorem test_rx_byte_held : (next? (exec (.rxByte 0x99#8) inHeld)).map (fun t => (t.status, t.rxLen, t.stats.dropped)) =
    some (0x85C#32, 8, 1#32) := by decide
/-- R195's example. -/
theorem test_rx_byte_reception : (next? (exec (.rxByte 0x03#8) { inReception with tmr15 := ⟨true, 1#16⟩ })).map
    (fun t => (t.rxLen, t.rx.read 1, t.tmr15)) = some (2, 0x03#8, ⟨true, 2#16⟩) := by decide
/-- R206's example. -/
theorem test_tick_completes_the_frame : statusAfter .tick
    { inHeld with rdRdy := false, crcOk := false, tmr35 := ⟨true, 1#16⟩ } = some 0x5C#32 := by decide +kernel
/-- R172's example. -/
theorem test_tick_order : (next? (exec .tick { inReception with tmr15 := ⟨true, 1#16⟩, tmr35 := ⟨true, 3#16⟩ })).map
    (fun t => (t.state, t.tmr15, t.tmr35)) = some (.wait, ⟨false, 0#16⟩, ⟨true, 2#16⟩) := by decide
/-- Vector E4. -/
theorem test_tx_ready_emits : (next? (exec .txReady { inEmission with txCur := 1 })).map (fun t => (t.txOut, t.txCur)) =
    some (some 0x22#8, 2) := by decide
/-- R233's example. -/
theorem test_tx_ready_exhausted : (next? (exec .txReady { inEmission with txCur := 3 })).map
    (fun t => (t.txOut, t.status, t.tmr35)) = some (none, 0x05#32, ⟨true, 4#16⟩) := by decide
/-- Vector B2. -/
theorem test_reset : (next? (exec .reset { inHeld with irqEn := 0x3F08#32 })).map
    (fun t => (t.status, t.irqEn, t.crc, t.rx.read 6)) = some (0#32, 0#32, 0xFFFF#16, 0#8) := by decide

/-! ### The step, the CRC function and the trace notation -/

theorem test_step_runs_the_first_row : (next? (step (State.reset.withFetchWord 64 0x1200000000000000))).map State.bus =
    some (.readOk 0x4D425207#32) := by decide
/-- Vector A2: no flag and no change from a `bus_error`. -/
theorem test_step_bus_error : (next? (step (State.reset.withFetchWord 64 0x1200000200000000))).map
    (fun t => (t.bus, t.status)) = some (.readError, 0#32) := by decide
/-- 40_crc.md R151: CRC-16/MODBUS of ASCII 123456789. -/
theorem test_crc_check_value :
    crcOfBytes [0x31#8, 0x32#8, 0x33#8, 0x34#8, 0x35#8, 0x36#8, 0x37#8, 0x38#8, 0x39#8] = 0x4B37#16 := by decide +kernel
/-- 30_encoding.md R114, the stimulus words of P5 and P1. -/
theorem test_trace_words :
    traceWords [.cfg 2#32 4#32, .rd .half .status, .wrbuf 5#8 [0x39#8, 0x9B#8], .rxg 1 [0x01#8, 0x03#8]] =
      [0x2200001000000002#64, 0x2200001400000004#64, 0x1100000400000000#64, 0x2200081400000039#64,
       0x220008180000009B#64, 0x3000000000000001#64, 0x4000000000000000#64, 0x3000000000000003#64] := by decide

/-- Vector A20, `cmd 0x00010000`: a CMD word that sets a bit of N, and a command with a count. -/
theorem test_trace_cmd_words :
    traceWords [.cmd 0x00010000 0, .cmd 4 7] = [0x2200000C00010000#64, 0x2200000C00070004#64] := by decide

/-! ### Witnesses: states and operands that meet the hypotheses of each statement, clause by clause -/

theorem inIdle_inv : inIdle.Inv where
  rxWf := by decide
  txWf := by decide
  irqEnImplemented := by decide
  tmr15Bounds := Timer.inv_stopped _
  tmr35Bounds := Timer.inv_stopped _
  timeoutsLegal := by decide
  cursorInBounds := by decide
  crcOkOnlyHeld := by decide
  phase := by simp [State.PhaseInv, inIdle, configured, State.reset]

theorem inHeld_inv : inHeld.Inv where
  rxWf := by decide
  txWf := by decide
  irqEnImplemented := by decide
  tmr15Bounds := Timer.inv_stopped _
  tmr35Bounds := Timer.inv_stopped _
  timeoutsLegal := by decide
  cursorInBounds := by decide
  crcOkOnlyHeld := by decide
  phase := by simp [State.PhaseInv, inHeld, configured, State.reset]

/-- A state with one pending word. -/
def pending (s : State) (w : StimulusWord) : State := { s with stimuli := [w] }

theorem inIdle_pending_inv (w : StimulusWord) : (pending inIdle w).Inv where
  rxWf := inIdle_inv.rxWf
  txWf := inIdle_inv.txWf
  irqEnImplemented := inIdle_inv.irqEnImplemented
  tmr15Bounds := inIdle_inv.tmr15Bounds
  tmr35Bounds := inIdle_inv.tmr35Bounds
  timeoutsLegal := inIdle_inv.timeoutsLegal
  cursorInBounds := inIdle_inv.cursorInBounds
  crcOkOnlyHeld := inIdle_inv.crcOkOnlyHeld
  phase := inIdle_inv.phase

theorem witness_EveryStepKeepsTheInvariant :
    ∃ t, (pending inIdle 0x3000000000000001#64).Inv ∧ step (pending inIdle 0x3000000000000001#64) = .next t ∧
      t.state = .reception :=
  ⟨_, inIdle_pending_inv _, rfl, rfl⟩

theorem witness_DecodeOfEncodeIsTheInstruction : Instr.wellFormed (.cmdTxStart 511) = true := by decide

theorem witness_EncodeOfDecodeIsTheWord : decode 0x22000BFC00000055#64 = .instr (.wrTxbuf 255#8 0x55#32) := by decide

theorem witness_StepRunsTheDecodedInstruction :
    (pending inIdle 0x4000000000000000#64).stimuli = 0x4000000000000000#64 :: [] ∧
    decode 0x4000000000000000#64 = .instr .tick := by decide

theorem witness_StepWithNoInputWaits : inReception.stimuli = [] := by decide

theorem witness_ExactlyTheInvalidWordsAreRefused :
    (pending inIdle 0#64).stimuli = 0#64 :: [] ∧ decode 0#64 = .refused .invalidKind := by decide

theorem witness_BusErrorAccessesChangeNothing :
    (pending inIdle 0x12000C0000000000#64).stimuli = [0x12000C0000000000#64] ∧
    decode 0x12000C0000000000#64 = .busError false ∧
    (pending inIdle 0x220007FC00000000#64).stimuli = [0x220007FC00000000#64] ∧
    decode 0x220007FC00000000#64 = .busError true := by decide

theorem witness_IllegalCommandsOnlySetCmdErr :
    (pending inIdle 0x2200000C00000009#64).stimuli = [0x2200000C00000009#64] ∧
    decode 0x2200000C00000009#64 = .illegalCommand := by decide

theorem witness_RxbufReadsTheCurrentFrame :
    (7#8 : Byte).toNat < inHeld.rxLen.val ∧ inHeld.rxLen.val ≤ (8#8 : Byte).toNat := by decide

theorem witness_ReadsAndPlainWritesAreIdempotent :
    (isRead .rdStatus = true ∧ ∃ t, exec .rdStatus inHeld = .next t) ∧
    (inHeld.tx.wf = true ∧ isIdempotentWrite (.wrTxbuf 0#8 1#32) = true ∧ ∃ t, exec (.wrTxbuf 0#8 1#32) inHeld = .next t) :=
  ⟨⟨by decide, _, rfl⟩, by decide, by decide, _, rfl⟩

theorem witness_TimeoutWritesOnlyInOff : State.reset.state = .off ∧ inInit.state ≠ .off := by decide

theorem witness_TxbufWriteStoresOneByte :
    (inHeld.tx.wf = true ∧ inHeld.state ≠ .emission) ∧ inEmission.state = .emission := by decide

theorem witness_CrcRxSumsTheReceivedBytes : 511 < 512 ∧ inHeld.rxLen.val < 9 ∧ 8 ≤ inHeld.rxLen.val := by decide

theorem witness_CrcTxSumsTheSendBuffer : 511 < 512 ∧ 256 < 257 ∧ 256 ≤ 256 := by decide

/-- A frame of `n + 2` sealed bytes about to complete: `n = 6`, then `n = 0`. -/
def sealedSix : State := { inHeld with rdRdy := false, crcOk := false, tmr35 := ⟨true, 1#16⟩ }
def sealedNone : State := { sealedSix with rx := [(0, 0xFF#8), (1, 0xFF#8)], rxLen := 2 }

theorem witness_SealedFrameIsReceivedWithCrcOk :
    (6 ≤ 254 ∧ sealedSix.rxLen.val = 6 + 2 ∧ sealedSix.state = .wait ∧ sealedSix.abandon = false ∧
      sealedSix.tmr15.enabled = false ∧ sealedSix.tmr35 = ⟨true, 1#16⟩ ∧
      sealedSix.rx.read 6 = (crcOfBytes (firstBytes sealedSix.rx 6)).extractLsb' 0 8 ∧
      sealedSix.rx.read 7 = (crcOfBytes (firstBytes sealedSix.rx 6)).extractLsb' 8 8) ∧
    (0 ≤ 254 ∧ sealedNone.rxLen.val = 0 + 2 ∧ sealedNone.state = .wait ∧ sealedNone.abandon = false ∧
      sealedNone.tmr15.enabled = false ∧ sealedNone.tmr35 = ⟨true, 1#16⟩ ∧
      sealedNone.rx.read 0 = (crcOfBytes (firstBytes sealedNone.rx 0)).extractLsb' 0 8 ∧
      sealedNone.rx.read 1 = (crcOfBytes (firstBytes sealedNone.rx 0)).extractLsb' 8 8) := by decide +kernel

theorem witness_FramingDoesNotDependOnTheCrcUnit :
    (writesCrc .tick = false ∧ ∃ t, exec .tick inWait = .next t) ∧
    (∃ t u, exec .tick inWait = .next t ∧ exec .tick { inWait with crc := 0#16 } = .next u) :=
  ⟨⟨by decide, _, rfl⟩, _, _, rfl, rfl⟩

/-- The smallest legal pair of timeouts. -/
def smallest : State := { State.reset with t15 := 1#16, t35 := 2#16 }

theorem witness_StartEntersInit :
    inIdle.state ≠ .off ∧
    (State.reset.state = .off ∧ ¬ (1 ≤ State.reset.t15.toNat ∧ State.reset.t15.toNat < State.reset.t35.toNat)) ∧
    (smallest.state = .off ∧ 1 ≤ smallest.t15.toNat ∧ smallest.t15.toNat < smallest.t35.toNat) := by decide

theorem witness_StopEntersOff : State.reset.state = .off ∧ inEmission.state ≠ .off := by decide

theorem witness_ReleaseDropsTheHeldFrame :
    (inHeld.state = .wait ∧ inHeld.rdRdy = true) ∧ ¬ (inWait.state = .wait ∧ inWait.rdRdy = true) := by decide

theorem witness_TxStartQueuesTheResponse :
    511 < 512 ∧ (inHeld.state = .wait ∧ inHeld.rdRdy = true ∧ 1 ≤ 1 ∧ 256 ≤ 256) ∧
    ¬ (inHeld.state = .wait ∧ inHeld.rdRdy = true ∧ 1 ≤ 0 ∧ 0 ≤ 256) ∧
    ¬ (inHeld.state = .wait ∧ inHeld.rdRdy = true ∧ 1 ≤ 257 ∧ 257 ≤ 256) := by decide

theorem witness_ByteIsIgnoredOrRestartsInit :
    (configured.state = .off ∨ configured.state = .emission) ∧ (inEmission.state = .off ∨ inEmission.state = .emission) ∧
    inInit.state = .init := by decide

theorem witness_FirstByteStartsTheFrame : inIdle.rx.wf = true ∧ inIdle.state = .idle := by decide

theorem witness_NextByteIsStoredAndRestartsBothTimers :
    inReception.rx.wf = true ∧ { inReception with rxLen := 255 }.state = .reception ∧
    { inReception with rxLen := 255 }.rxLen.val < 256 := by decide

theorem witness_ByteOnAFullBufferDiscardsTheFrame :
    { inReception with rxLen := 256 }.state = .reception ∧ { inReception with rxLen := 256 }.rxLen.val = 256 := by decide

theorem witness_NoiseByteAbandonsTheFrame : inWait.state = .wait ∧ inWait.rdRdy = false := by decide

theorem witness_ByteOnAHeldFrameIsDropped : inHeld.state = .wait ∧ inHeld.rdRdy = true := by decide

theorem witness_TickCountsTheEnabledTimersDown :
    ((inReception.tmr15.enabled = true → 2 ≤ inReception.tmr15.count.toNat) ∧
      (inReception.tmr35.enabled = true → 2 ≤ inReception.tmr35.count.toNat)) ∧
    ((inIdle.tmr15.enabled = true → 2 ≤ inIdle.tmr15.count.toNat) ∧
      (inIdle.tmr35.enabled = true → 2 ≤ inIdle.tmr35.count.toNat)) := by decide

theorem witness_ShortSilenceInReceptionLeadsToWait :
    { inReception with tmr15 := ⟨true, 1#16⟩, tmr35 := ⟨true, 2#16⟩ }.state = .reception ∧
    { inReception with tmr15 := ⟨true, 1#16⟩, tmr35 := ⟨true, 2#16⟩ }.tmr15 = ⟨true, 1#16⟩ ∧
    { inReception with tmr15 := ⟨true, 1#16⟩, tmr35 := ⟨true, 2#16⟩ }.tmr35.enabled = true ∧
    2 ≤ { inReception with tmr15 := ⟨true, 1#16⟩, tmr35 := ⟨true, 2#16⟩ }.tmr35.count.toNat := by decide

theorem witness_LongSilenceInInitLeadsToIdle :
    { inInit with tmr35 := ⟨true, 1#16⟩ }.state = .init ∧ inInit.tmr15.enabled = false ∧
    { inInit with tmr35 := ⟨true, 1#16⟩ }.tmr35 = ⟨true, 1#16⟩ := by decide

/-- A noise byte's silence about to end. -/
def abandoned : State := { inWait with abandon := true, rxLen := 0, tmr35 := ⟨true, 1#16⟩ }

theorem witness_LongSilenceAfterNoiseLeadsToIdle :
    abandoned.state = .wait ∧ abandoned.abandon = true ∧ abandoned.tmr15.enabled = false ∧
    abandoned.tmr35 = ⟨true, 1#16⟩ := by decide

theorem witness_LongSilenceInWaitCompletesTheFrame :
    sealedSix.state = .wait ∧ sealedSix.abandon = false ∧ sealedSix.tmr15.enabled = false ∧
    sealedSix.tmr35 = ⟨true, 1#16⟩ := by decide

theorem witness_LongSilenceEndsTheEmission :
    { inEmission with txie := false, txCur := 3, tmr35 := ⟨true, 1#16⟩ }.state = .emission ∧
    inEmission.tmr15.enabled = false ∧
    { inEmission with txie := false, txCur := 3, tmr35 := ⟨true, 1#16⟩ }.tmr35 = ⟨true, 1#16⟩ := by decide

/-- Both timers about to expire together, and each alone in a state with no transition for it. -/
def bothAtOne : State := { inReception with tmr15 := ⟨true, 1#16⟩, tmr35 := ⟨true, 1#16⟩ }
def strayTmr15 : State := { inIdle with tmr15 := ⟨true, 1#16⟩ }
def strayTmr35 : State := { inIdle with tmr35 := ⟨true, 1#16⟩ }

theorem witness_ExpiryOrderAndExpiriesWithoutTransition :
    (bothAtOne.state = .reception ∧ bothAtOne.abandon = false ∧ bothAtOne.tmr15 = ⟨true, 1#16⟩ ∧
      bothAtOne.tmr35 = ⟨true, 1#16⟩) ∧
    (strayTmr15.state ≠ .reception ∧ strayTmr15.tmr15 = ⟨true, 1#16⟩ ∧ strayTmr15.tmr35.enabled = false) ∧
    ((strayTmr35.state = .off ∨ strayTmr35.state = .idle ∨ strayTmr35.state = .reception) ∧
      strayTmr35.tmr15.enabled = false ∧ strayTmr35.tmr35 = ⟨true, 1#16⟩) := by decide

theorem witness_TxReadyDrainsThenTurnsAround :
    ({ inEmission with txCur := 2 }.state = .emission ∧ inEmission.txie = true ∧
      { inEmission with txCur := 2 }.txCur.val < inEmission.txLen.val) ∧
    ({ inEmission with txCur := 3 }.state = .emission ∧ inEmission.txLen.val ≤ { inEmission with txCur := 3 }.txCur.val) ∧
    ¬ (inIdle.state = .emission ∧ inIdle.txie = true) := by decide

/-- Every sticky flag set, and a write that clears `TX_DONE` only; then one that clears the other five. -/
def allFlags : State := { inHeld with flags := ⟨true, true, true, true, true, true⟩ }

theorem witness_OnlyStatusWriteAndResetClearStickyFlags :
    ((∃ t, exec (.wrStatus 0x100#32) allFlags = .next t) ∧ Instr.wrStatus 0x100#32 ≠ .reset ∧
      (allFlags.flags.noise = true ∧ ∀ v, Instr.wrStatus 0x100#32 = .wrStatus v → v.getLsbD 9 = false) ∧
      (allFlags.flags.cfgErr = true ∧ ∀ v, Instr.wrStatus 0x100#32 = .wrStatus v → v.getLsbD 13 = false)) ∧
    ((∃ t, exec (.wrStatus 0x3E00#32) allFlags = .next t) ∧
      (allFlags.flags.txDone = true ∧ ∀ v, Instr.wrStatus 0x3E00#32 = .wrStatus v → v.getLsbD 8 = false)) :=
  ⟨⟨⟨_, rfl⟩, by decide, ⟨by decide, fun _ h => by cases h; decide⟩, by decide, fun _ h => by cases h; decide⟩,
    ⟨_, rfl⟩, by decide, fun _ h => by cases h; decide⟩

theorem witness_CountersAreMonotone :
    (∃ t, exec (.rxByte 0#8) { inHeld with stats := ⟨1#32, 2#32, 3#32, 4#32, 0xFFFFFFFF#32⟩ } = .next t) ∧
    Instr.rxByte 0#8 ≠ .reset ∧ Instr.rxByte 0#8 ≠ .cmdClrStats :=
  ⟨⟨_, rfl⟩, by decide, by decide⟩

theorem witness_HeldFrameStaysHeldAndStable :
    inHeld.Inv ∧ inHeld.held = true ∧ endsHold (.rxByte 0#8) = false ∧ ∃ t, exec (.rxByte 0#8) inHeld = .next t :=
  ⟨inHeld_inv, by decide, by decide, _, rfl⟩

theorem witness_OnlyStartLeavesOffAndOnlyTxStartEntersEmission :
    (∃ t, smallest.state = .off ∧ exec .cmdStart smallest = .next t ∧ t.state ≠ .off) ∧
    (∃ t, inHeld.state ≠ .emission ∧ exec (.cmdTxStart 256) inHeld = .next t ∧ t.state = .emission) :=
  ⟨⟨_, by decide, rfl, by decide⟩, _, by decide, rfl, by decide⟩

theorem witness_EveryInstructionCompletesAndEveryStepTakesOneInput :
    ∃ t, step (pending inIdle 0x2200000C00000001#64) = .next t := ⟨_, rfl⟩

def ticks (k : Nat) : List StimulusWord := List.replicate k 0x4000000000000000#64

theorem witness_InitEndsOnTheTthTick :
    { inInit with stimuli := ticks 4 }.state = .init ∧ inInit.tmr15.enabled = false ∧
    inInit.tmr35 = ⟨true, inInit.t35⟩ ∧ 1 ≤ inInit.t35.toNat ∧
    { inInit with stimuli := ticks 4 }.stimuli = List.replicate inInit.t35.toNat 0x4000000000000000#64 ++ [] := by decide

theorem witness_FrameIsHeldAfterT35TicksOfSilence :
    { inReception with stimuli := ticks 4 }.state = .reception ∧ inReception.rdRdy = false ∧
    inReception.abandon = false ∧ inReception.tmr15 = ⟨true, inReception.t15⟩ ∧
    inReception.tmr35 = ⟨true, inReception.t35⟩ ∧ 1 ≤ inReception.t15.toNat ∧
    inReception.t15.toNat < inReception.t35.toNat ∧
    { inReception with stimuli := ticks 4 }.stimuli =
      List.replicate inReception.t35.toNat 0x4000000000000000#64 ++ [] := by decide

/-- A held frame, then a response of one byte, drained and turned around. -/
def oneByteEmission : State :=
  { inHeld with stimuli := 0x2200000C00010004#64 :: 0x5000000000000000#64 :: 0x5000000000000000#64 :: ticks 4 }

theorem witness_EmissionPutsExactlyTheResponseOnTheLine :
    oneByteEmission.state = .wait ∧ oneByteEmission.rdRdy = true ∧ 1 ≤ 1 ∧ 1 ≤ 256 ∧
    oneByteEmission.tmr15.enabled = false ∧ oneByteEmission.tmr35.enabled = false ∧ 1 ≤ oneByteEmission.t35.toNat ∧
    oneByteEmission.stimuli = encode (.cmdTxStart 1) :: (List.replicate (1 + 1) 0x5000000000000000#64 ++
      List.replicate oneByteEmission.t35.toNat 0x4000000000000000#64 ++ []) := by decide

theorem witness_EmissionKeepsTheResponseAndEmitsOnlyAtTheCursor :
    (∃ t, exec (.wrTxbuf 0#8 9#32) inEmission = .next t ∧ t.txOut.isSome = false) ∧ inEmission.state = .emission ∧
    Instr.wrTxbuf 0#8 9#32 ≠ .cmdStop ∧ Instr.wrTxbuf 0#8 9#32 ≠ .reset ∧
    (∃ t, exec .txReady { inEmission with txCur := 2 } = .next t ∧ t.txOut = some (inEmission.tx.read 2)) :=
  ⟨⟨_, rfl, by decide⟩, by decide, by decide, by decide, _, rfl, by decide⟩

end Sys2Proof.Tests
end

section
/-! The reset state (spec/10_state.md R42). Its elements and buffers are what `State.reset` stores; the three outputs
are computed from the state, so each is low for a reason that is a lemma about every state. -/

namespace Sys2Proof.Machine

/-- R26: with every bit of the mask 0, no pending source raises `irq`. -/
theorem irq_eq_false_of_irqEn_eq_zero {s : State} (h : s.irqEn = 0#32) : s.irq = false := by
  simp [State.irq, h]

/-- R31: the receiver is off in Off. -/
theorem rxEnable_eq_false_of_off {s : State} (h : s.state = .off) : s.rxEnable = false := by
  simp [rxEnable_eq, h]

/-- R101: a step that emitted no byte leaves `tx_valid` low. -/
theorem txValid_eq_false_of_txOut_eq_none {s : State} (h : s.txOut = none) : s.txValid = false := by
  simp [State.txValid, h]

/-- Settles O1: the stored elements are those of `State.reset`, an empty buffer reads 0 at every index, and the outputs
are low because the mask is 0, the session is Off and no byte is emitted. -/
theorem resetStateHoldsTheResetValues : Obligations.ResetStateHoldsTheResetValues := by
  have hirq : State.reset.irq = false := irq_eq_false_of_irqEn_eq_zero rfl
  have hrx : State.reset.rxEnable = false := rxEnable_eq_false_of_off rfl
  have htx : State.reset.txValid = false := txValid_eq_false_of_txOut_eq_none rfl
  exact ⟨rfl, rfl, rfl, rfl, rfl, rfl, rfl, rfl, rfl, rfl, rfl, rfl, Memory.read_nil, rfl, rfl, Memory.read_nil, rfl, rfl,
    hirq, hrx, htx⟩

end Sys2Proof.Machine
end

section
/-! The word of a host write (spec/30_encoding.md R103 to R110): its upper half selects the register, its lower half is
the data. The decoder reads both back, so a write's stimulus word is decoded once, for every register and every data. -/

namespace Sys2Proof

/-- R110: the upper half of the word of a 32-bit host write to a register. -/
def writeHeader (r : Reg) : BitVec 32 := Kind.hostWr.bits ++ 0#2 ++ 2#2 ++ 0#12 ++ r.offset

theorem encodeWrite_eq_append (r : Reg) (v : Word) : encodeWrite r v = writeHeader r ++ v := rfl

/-- R103, R111: a host-write word decodes to what its register does with its data. -/
theorem decode_encodeWrite (r : Reg) (v : Word) : decode (encodeWrite r v) = writeDecoded v r := by
  simp [encodeWrite, decode, decodeWrite, legalReg]

theorem decode_writeHeader_append (r : Reg) (v : Word) : decode (writeHeader r ++ v) = writeDecoded v r := by
  rw [← encodeWrite_eq_append, decode_encodeWrite]

/-! ### The CMD word -/

/-- R104: the low half of a CMD word is its reserved byte and its opcode. -/
theorem commandWord_eq_append (op : Byte) (n : Nat) :
    commandWord op n = 0#7 ++ BitVec.ofNat 9 n ++ (0#8 ++ op) := by
  rw [commandWord, BitVec.append_assoc]
  rfl

/-- R104: the reserved bits of a CMD word are 0. -/
theorem commandWord_reserved (op : Byte) (n : Nat) : commandWord op n &&& 0xFE00FF00#32 = 0#32 := by
  have hfields : (0#7 ++ BitVec.ofNat 9 n ++ 0#8 ++ op) &&& (0x7F#7 ++ 0#9 ++ 0xFF#8 ++ 0#8) =
      0#7 ++ 0#9 ++ 0#8 ++ 0#8 := by
    simp only [BitVec.and_append, BitVec.zero_and, BitVec.and_zero]
  exact hfields

/-- R106: opcode 6 is `CRC_RX` with its byte count. -/
theorem decodeCommand_cmdCrcRx {n : Nat} (h : n < 512) : decodeCommand (commandWord 0x06#8 n) = some (.cmdCrcRx n) := by
  simp [decodeCommand, commandWord_reserved, cmdN_commandWord _ h]

/-- R106: opcode 7 is `CRC_TX` with its byte count. -/
theorem decodeCommand_cmdCrcTx {n : Nat} (h : n < 512) : decodeCommand (commandWord 0x07#8 n) = some (.cmdCrcTx n) := by
  simp [decodeCommand, commandWord_reserved, cmdN_commandWord _ h]

/-- R265: a CMD write whose fields are a legal command decodes to that command. -/
theorem decode_cmdWrite {op : Byte} {n : Nat} {i : Instr} (h : decodeCommand (commandWord op n) = some i) :
    decode (writeHeader .cmd ++ (0#7 ++ BitVec.ofNat 9 n ++ (0#8 ++ op))) = .instr i := by
  rw [← commandWord_eq_append, decode_writeHeader_append, writeDecoded, h]

end Sys2Proof
end

section
/-! The CRC function (spec/40_crc.md R140, R141): the bit loop read on numbers, and the CRC of a buffer as a fold over
its bytes. -/

namespace Sys2Proof.Machine

/-- R140: one shift halves the number and XORs the polynomial when the number was odd. -/
theorem toNat_crcShift (c : Half) :
    (crcShift c).toNat = if c.toNat % 2 = 1 then c.toNat / 2 ^^^ 0xA001 else c.toNat / 2 := by
  have hbit : c.getLsbD 0 = decide (c.toNat % 2 = 1) := Nat.testBit_zero c.toNat
  have hhalf : (c >>> 1).toNat = c.toNat / 2 := by rw [BitVec.toNat_ushiftRight, Nat.shiftRight_one]
  simp only [crcShift, hbit, decide_eq_true_eq]
  split
  · rw [BitVec.toNat_xor, hhalf]
    rfl
  · exact hhalf

theorem toNat_crcShifts (k : Nat) (c : Half) : (crcShifts k c).toNat = crcShiftsOnNumbers k c.toNat := by
  induction k generalizing c with
  | zero => rfl
  | succ k ih => rw [crcShifts, crcShiftsOnNumbers, ih, toNat_crcShift]

/-- R140: one CRC step is the bit loop on the number of the register XOR the byte. -/
theorem toNat_crcStep (c : Half) (b : Byte) :
    (crcStep c b).toNat = crcShiftsOnNumbers 8 (c.toNat ^^^ b.toNat) := by
  have hbyte : (b.setWidth 16).toNat = b.toNat := BitVec.toNat_setWidth_of_le (by omega)
  rw [crcStep, toNat_crcShifts, BitVec.toNat_xor, hbyte]

theorem firstBytes_succ (m : Memory) (n : Nat) : firstBytes m (n + 1) = firstBytes m n ++ [m.read n] := by
  simp [firstBytes, List.range_succ]

theorem crcOfBytes_concat (bs : List Byte) (b : Byte) : crcOfBytes (bs ++ [b]) = crcStep (crcOfBytes bs) b :=
  List.foldl_concat ..

/-- R141: the CRC of a buffer feeds its bytes in index order. -/
theorem crc16_eq_crcOfBytes (m : Memory) (n : Nat) : crc16 m n = crcOfBytes (firstBytes m n) := by
  induction n with
  | zero => rfl
  | succ n ih => rw [crc16, ih, firstBytes_succ, crcOfBytes_concat]

/-- R141's example. -/
theorem crcOfBytes_example : crcOfBytes [0x01#8, 0x03#8, 0x00#8, 0x00#8, 0x00#8, 0x01#8] = 0x0A84#16 := by
  simp [crcOfBytes, crcStep, crcShifts, crcShift]

theorem toNat_dataByte (v : Word) : (dataByte v).toNat = v.toNat % 256 := by
  rw [dataByte, BitVec.extractLsb'_toNat, Nat.shiftRight_zero]

end Sys2Proof.Machine
end

section
/-! What each input of the CRC unit does (spec/40_crc.md R144 to R148): its whole next state. -/

namespace Sys2Proof.Machine

variable (s : State) (v : Word) {n : Nat}

theorem exec_wrCrcValue :
    exec (.wrCrcValue v) s = .next { s with crc := v.extractLsb' 0 16, bus := .writeOk, txOut := none } := rfl

theorem exec_rdCrcValue : exec .rdCrcValue s = .next { s with bus := .readOk (0#16 ++ s.crc), txOut := none } := by
  have hview : s.readReg .crcValue = 0#16 ++ s.crc := BitVec.setWidth_eq_append (by omega)
  rw [← hview]
  rfl

theorem exec_wrCrcData :
    exec (.wrCrcData v) s = .next { s with crc := crcStep s.crc (dataByte v), bus := .writeOk, txOut := none } := rfl

theorem exec_cmdCrcInit : exec .cmdCrcInit s = .next { s with crc := 0xFFFF#16, bus := .writeOk, txOut := none } := rfl

/-- 44_host_access.md R260: a rejected write only sets `CMD_ERR`. -/
theorem rejectWrite_eq :
    rejectWrite s = .next { s with flags := { s.flags with cmdErr := true }, bus := .writeOk, txOut := none } := rfl

theorem exec_cmdCrcRx_of_rxLen_lt (h : s.rxLen.val < n) :
    exec (.cmdCrcRx n) s =
      .next { s with flags := { s.flags with cmdErr := true }, bus := .writeOk, txOut := none } := by
  rw [← rejectWrite_eq]
  exact if_pos h

theorem exec_cmdCrcRx_of_le_rxLen (h : n ≤ s.rxLen.val) :
    exec (.cmdCrcRx n) s =
      .next { s with crc := crcOfBytes (firstBytes s.rx n), bus := .writeOk, txOut := none } := by
  rw [← crc16_eq_crcOfBytes]
  exact if_neg (Nat.not_lt.2 h)

theorem exec_cmdCrcTx_of_256_lt (h : 256 < n) :
    exec (.cmdCrcTx n) s =
      .next { s with flags := { s.flags with cmdErr := true }, bus := .writeOk, txOut := none } := by
  rw [← rejectWrite_eq]
  exact if_pos h

theorem exec_cmdCrcTx_of_le_256 (h : n ≤ 256) :
    exec (.cmdCrcTx n) s =
      .next { s with crc := crcOfBytes (firstBytes s.tx n), bus := .writeOk, txOut := none } := by
  rw [← crc16_eq_crcOfBytes]
  exact if_neg (Nat.not_lt.2 h)

end Sys2Proof.Machine
end

section
/-! The statements about the CRC unit (spec/40_crc.md R140, R141, R144 to R148). -/

namespace Sys2Proof.Machine

/-- Settles O24: `toNat_crcStep` for every register and byte; the rule's three values by evaluation. -/
theorem crcStepIsTheBitLoop : Obligations.CrcStepIsTheBitLoop :=
  ⟨toNat_crcStep, by decide, by decide, by decide⟩

/-- Settles O25: `crc16_eq_crcOfBytes` for every buffer and length; the rule's example by evaluation. -/
theorem crcOfABufferFeedsItsBytesInOrder : Obligations.CrcOfABufferFeedsItsBytesInOrder :=
  ⟨crc16_eq_crcOfBytes, fun _ => rfl, crcOfBytes_example⟩

/-- Settles O21: the write runs `crcStep` on `v[7:0]`, which is the bit loop on numbers. -/
theorem crcDataFeedsOneByte : Obligations.CrcDataFeedsOneByte := by
  intro v s
  have hloop : (crcStep s.crc (dataByte v)).toNat = crcShiftsOnNumbers 8 (s.crc.toNat ^^^ (v.toNat % 256)) := by
    rw [toNat_crcStep, toNat_dataByte]
  exact ⟨decode_writeHeader_append .crcData v, crcStep s.crc (dataByte v), exec_wrCrcData s v, hloop⟩

/-- Settles O22: the two sides of the bound `rx_len`, and the command's word from its two fields. -/
theorem crcRxSumsTheReceivedBytes : Obligations.CrcRxSumsTheReceivedBytes := by
  intro n s
  have hword (hn : n < 512) := decode_cmdWrite (decodeCommand_cmdCrcRx hn)
  exact ⟨hword, exec_cmdCrcRx_of_rxLen_lt s, exec_cmdCrcRx_of_le_rxLen s⟩

/-- Settles O23: the two sides of the bound 256, and the command's word from its two fields. -/
theorem crcTxSumsTheSendBuffer : Obligations.CrcTxSumsTheSendBuffer := by
  intro n s
  have hword (hn : n < 512) := decode_cmdWrite (decodeCommand_cmdCrcTx hn)
  exact ⟨hword, exec_cmdCrcTx_of_256_lt s, exec_cmdCrcTx_of_le_256 s⟩

/-- Settles O20: the next state of each of the three inputs, and the words that select them. -/
theorem crcValueWritesReadsAndInit : Obligations.CrcValueWritesReadsAndInit :=
  ⟨by decide, by decide, fun v s =>
    ⟨decode_writeHeader_append .crcValue v, exec_wrCrcValue s v, exec_rdCrcValue s, exec_cmdCrcInit s⟩⟩

end Sys2Proof.Machine
end

section
/-! What the receive rules and the timer expiries use of the shared operations: a buffer read back after a write,
`CRC_OK` over the frame's bytes, and a TICK of one timer by what the timer holds. -/

namespace Sys2Proof.Machine

/-! ### The bytes of a frame -/

theorem Memory.read_write_same {m : Memory} (h : m.wf = true) (a : Nat) (b : Byte) : (m.write a b).read a = b := by
  rw [Memory.read_write h, if_pos rfl]

theorem Memory.read_write_of_ne {m : Memory} (h : m.wf = true) {a j : Nat} (b : Byte) (hj : j ≠ a) :
    (m.write a b).read j = m.read j := by
  rw [Memory.read_write h, if_neg hj]

/-- 10_state.md R28: `CRC_OK` compares the CRC fed with all bytes but the last two with those two, low byte first. -/
theorem frameCrcOk_eq (m : Memory) (n : Nat) :
    frameCrcOk m n =
      decide (4 ≤ n ∧ crcOfBytes (firstBytes m (n - 2)) = m.read (n - 1) ++ m.read (n - 2)) := by
  rw [frameCrcOk, trailingCrc, crc16_eq_crcOfBytes, Bool.decide_and]

/-! ### A TICK of one timer (41_timers.md R172, R173) -/

variable {s : State}

theorem tickTmr15_of_disabled (h : s.tmr15.enabled = false) : s.tickTmr15 = s := by
  simp [State.tickTmr15, Timer.expires_of_disabled h, Timer.counted_of_disabled h]

/-- The last count disables the timer first; its expiry then runs on the state with the timer off. -/
theorem tickTmr15_of_one (h : s.tmr15 = ⟨true, 1#16⟩) :
    s.tickTmr15 = { s with tmr15 := ⟨false, 0#16⟩ }.expireTmr15 := by
  simp [State.tickTmr15, h]

theorem tickTmr35_of_two_le (he : s.tmr35.enabled = true) (h : 2 ≤ s.tmr35.count.toNat) :
    s.tickTmr35 = { s with tmr35 := ⟨true, s.tmr35.count - 1#16⟩ } := by
  simp [State.tickTmr35, Timer.expires_of_two_le h, Timer.counted_of_two_le he h]

/-- The last count disables the timer first; its expiry then runs on the state with the timer off. -/
theorem tickTmr35_of_one (h : s.tmr35 = ⟨true, 1#16⟩) :
    s.tickTmr35 = { s with tmr35 := ⟨false, 0#16⟩ }.expireTmr35 := by
  simp [State.tickTmr35, h]

theorem expireTmr15_of_reception (h : s.state = .reception) : s.expireTmr15 = s.silence15 := by
  rw [State.expireTmr15, h]

theorem expireTmr35_of_init (h : s.state = .init) : s.expireTmr35 = s.initDone := by
  rw [State.expireTmr35, h]

theorem expireTmr35_of_abandon (h : s.state = .wait) (ha : s.abandon = true) : s.expireTmr35 = s.abandonDone := by
  rw [State.expireTmr35, h]
  exact if_pos ha

theorem expireTmr35_of_frame (h : s.state = .wait) (ha : s.abandon = false) : s.expireTmr35 = s.frameDone := by
  rw [State.expireTmr35, h]
  exact if_neg (Bool.eq_false_iff.1 ha)

/-- R206 with R28 and R40: the completed frame, its `CRC_OK` over the bytes and its counter as a number. -/
theorem frameDone_eq (s : State) :
    s.frameDone = { s with
      rdRdy := true,
      crcOk := decide (4 ≤ s.rxLen.val ∧ crcOfBytes (firstBytes s.rx (s.rxLen.val - 2)) =
        s.rx.read (s.rxLen.val - 1) ++ s.rx.read (s.rxLen.val - 2)),
      stats := { s.stats with rxFrames := countedUp s.stats.rxFrames } } := by
  rw [← frameCrcOk_eq, ← saturatingSucc_eq]
  rfl

/-- R172: a TICK counts `tmr15`, then `tmr35` in the state that leaves. -/
theorem exec_tick_of_ticks {u v : State} (h15 : s.tickTmr15 = u) (h35 : u.tickTmr35 = v) :
    exec .tick s = .next { v with bus := .noAccess, txOut := none } := by
  rw [← h35, ← h15]
  rfl

/-- With `tmr15` off, the expiry of `tmr35` is the whole TICK. -/
theorem exec_tick_of_tmr35_one {u : State} (h15 : s.tmr15.enabled = false) (h35 : s.tmr35 = ⟨true, 1#16⟩)
    (hu : { s with tmr35 := ⟨false, 0#16⟩ }.expireTmr35 = u) :
    exec .tick s = .next { u with bus := .noAccess, txOut := none } :=
  exec_tick_of_ticks (tickTmr15_of_disabled h15) ((tickTmr35_of_one h35).trans hu)

end Sys2Proof.Machine
end

section
/-! What each session command and a received byte do, by the guard of the rule they run (spec/42_receive.md R191 to
R208). -/

namespace Sys2Proof.Machine

variable {s : State}

/-! ### START, STOP and RELEASE -/

theorem execCmdStart_of_ne_off (h : s.state ≠ .off) : execCmdStart s = rejectWrite s := if_neg h

theorem execCmdStart_of_illegal (h : s.state = .off) (ht : ¬ (1 ≤ s.t15.toNat ∧ s.t15.toNat < s.t35.toNat)) :
    execCmdStart s = answerWrite (s.setFlag .cfgErr) := by
  rw [execCmdStart, if_pos h, if_neg (mt timeoutsLegal_iff.1 ht)]

theorem execCmdStart_of_legal (h : s.state = .off) (ht : 1 ≤ s.t15.toNat ∧ s.t15.toNat < s.t35.toNat) :
    execCmdStart s = answerWrite { s.clearSession with state := .init }.startTmr35 := by
  rw [execCmdStart, if_pos h, if_pos (timeoutsLegal_iff.2 ht)]

theorem execCmdStop_of_off (h : s.state = .off) : execCmdStop s = answerWrite s := if_pos h

theorem execCmdStop_of_ne_off (h : s.state ≠ .off) :
    execCmdStop s = answerWrite { s.clearSession with state := .off }.stopTmr35 := if_neg h

theorem execCmdRelease_of_held (h : s.state = .wait ∧ s.rdRdy = true) :
    execCmdRelease s = answerWrite { s with rdRdy := false, crcOk := false, rxLen := 0, state := .idle } :=
  if_pos (held_iff.2 h)

theorem execCmdRelease_of_not_held (h : ¬ (s.state = .wait ∧ s.rdRdy = true)) :
    execCmdRelease s = rejectWrite s :=
  if_neg (mt held_iff.1 h)

/-! ### The rule a received byte runs (R193) -/

variable (b : Byte)

theorem exec_rxByte (s : State) :
    exec (.rxByte b) s = .next { s.receive b with bus := .noAccess, txOut := none } := rfl

theorem receive_of_off_or_emission (h : s.state = .off ∨ s.state = .emission) : s.receive b = s := by
  rcases h with h | h <;> rw [State.receive, h]

theorem receive_of_init (h : s.state = .init) : s.receive b = s.rxDiscard := by
  rw [State.receive, h]

theorem receive_of_idle (h : s.state = .idle) : s.receive b = s.rxFirst b := by
  rw [State.receive, h]

theorem receive_of_reception_lt (h : s.state = .reception) (hlen : s.rxLen.val < 256) :
    s.receive b = s.rxStore b := by
  rw [State.receive, h]
  exact if_pos hlen

theorem receive_of_reception_full (h : s.state = .reception) (hlen : s.rxLen.val = 256) :
    s.receive b = s.rxOverflow := by
  rw [State.receive, h]
  exact if_neg (by omega)

theorem receive_of_held (h : s.state = .wait) (hr : s.rdRdy = true) : s.receive b = s.rxDrop := by
  rw [State.receive, h]
  exact if_pos hr

theorem receive_of_wait_not_ready (h : s.state = .wait) (hr : s.rdRdy = false) : s.receive b = s.rxNoise := by
  rw [State.receive, h]
  exact if_neg (Bool.eq_false_iff.1 hr)

/-! ### The rules that count: the state they leave, the counter as a number -/

variable (s)

theorem rxOverflow_eq :
    s.rxOverflow = { s with
      rxLen := 0, tmr15 := ⟨false, 0#16⟩, tmr35 := ⟨false, 0#16⟩, state := .idle,
      flags := { s.flags with rxOvf := true },
      stats := { s.stats with overflow := countedUp s.stats.overflow } } := by
  rw [← saturatingSucc_eq]
  rfl

theorem rxNoise_eq :
    s.rxNoise = { s with
      abandon := true, rxLen := 0, tmr35 := ⟨true, s.t35⟩, flags := { s.flags with noise := true },
      stats := { s.stats with noise := countedUp s.stats.noise } } := by
  rw [← saturatingSucc_eq]
  rfl

theorem rxDrop_eq :
    s.rxDrop = { s with
      flags := { s.flags with drop := true },
      stats := { s.stats with dropped := countedUp s.stats.dropped } } := by
  rw [← saturatingSucc_eq]
  rfl

end Sys2Proof.Machine
end

section
/-! The statements about session control and the frame-boundary detector (spec/42_receive.md R191 to R208). -/

namespace Sys2Proof.Machine

/-! ### Byte arrival -/

/-- Settles O36: the byte goes to `rx[0]`, and the buffer's read-after-write rule gives every index. -/
theorem firstByteStartsTheFrame : Obligations.FirstByteStartsTheFrame := by
  intro b s hwf hidle
  refine ⟨s.rx.write 0 b, ?_, Memory.wf_write b hwf (by omega), Memory.read_write_same hwf 0 b, ?_⟩
  · rw [exec_rxByte, receive_of_idle b hidle]
    rfl
  · intro j hj
    exact Memory.read_write_of_ne hwf b hj

/-- Settles O37: the byte goes to `rx[rx_len]`, which the guard keeps inside the buffer, and the length does not
saturate. -/
theorem nextByteIsStoredAndRestartsBothTimers : Obligations.NextByteIsStoredAndRestartsBothTimers := by
  intro b s hwf hrec hlen
  refine ⟨s.rx.write s.rxLen.val b, Len.succ s.rxLen, ?_, Len.val_succ hlen, Memory.wf_write b hwf hlen,
    Memory.read_write_same hwf _ b, ?_⟩
  · rw [exec_rxByte, receive_of_reception_lt b hrec hlen]
    rfl
  · intro j hj
    exact Memory.read_write_of_ne hwf b hj

/-- Settles O35: Off and Emission lose the byte, Init runs R197. -/
theorem byteIsIgnoredOrRestartsInit : Obligations.ByteIsIgnoredOrRestartsInit := by
  intro b s
  constructor
  · intro hlost
    rw [exec_rxByte, receive_of_off_or_emission b hlost]
  · intro hinit
    rw [exec_rxByte, receive_of_init b hinit]
    rfl

/-- Settles O38: a full buffer takes R203's branch. -/
theorem byteOnAFullBufferDiscardsTheFrame : Obligations.ByteOnAFullBufferDiscardsTheFrame := by
  intro b s hrec hlen
  rw [exec_rxByte, receive_of_reception_full b hrec hlen, rxOverflow_eq]

/-- Settles O39: Wait without a held frame takes R204's branch. -/
theorem noiseByteAbandonsTheFrame : Obligations.NoiseByteAbandonsTheFrame := by
  intro b s hwait hready
  rw [exec_rxByte, receive_of_wait_not_ready b hwait hready, rxNoise_eq]

/-- Settles O40: Wait with a held frame takes R207's branch. -/
theorem byteOnAHeldFrameIsDropped : Obligations.ByteOnAHeldFrameIsDropped := by
  intro b s hwait hready
  rw [exec_rxByte, receive_of_held b hwait hready, rxDrop_eq]

/-! ### Session commands -/

/-- Settles O30: R191's three guards. -/
theorem startEntersInit : Obligations.StartEntersInit := by
  refine ⟨by decide, fun s => ⟨?_, ?_, ?_⟩⟩
  · intro hne
    exact execCmdStart_of_ne_off hne
  · intro hoff hillegal
    exact execCmdStart_of_illegal hoff hillegal
  · intro hoff h15 h35
    exact execCmdStart_of_legal hoff ⟨h15, h35⟩

/-- Settles O31: R192's two guards. -/
theorem stopEntersOff : Obligations.StopEntersOff :=
  ⟨by decide, fun _ => ⟨execCmdStop_of_off, execCmdStop_of_ne_off⟩⟩

/-- Settles O32: R208's guard is `held`. -/
theorem releaseDropsTheHeldFrame : Obligations.ReleaseDropsTheHeldFrame :=
  ⟨by decide, fun _ => ⟨fun hwait hready => execCmdRelease_of_held ⟨hwait, hready⟩, execCmdRelease_of_not_held⟩⟩

/-! ### Timer expiries -/

/-- Settles O42: `tmr15` expires first, and Wait then counts the same `tmr35`. -/
theorem shortSilenceInReceptionLeadsToWait : Obligations.ShortSilenceInReceptionLeadsToWait := by
  intro s hrec h15 hrun h35
  have hfirst : s.tickTmr15 = { s with tmr15 := ⟨false, 0#16⟩ }.silence15 :=
    (tickTmr15_of_one h15).trans (expireTmr15_of_reception hrec)
  exact exec_tick_of_ticks hfirst (tickTmr35_of_two_le hrun h35)

/-- Settles O43: the expiry of `tmr35` in Init is R198. -/
theorem longSilenceInInitLeadsToIdle : Obligations.LongSilenceInInitLeadsToIdle := by
  intro s hinit h15 h35
  exact exec_tick_of_tmr35_one h15 h35 (expireTmr35_of_init hinit)

/-- Settles O44: the expiry of `tmr35` in Wait with `ABANDON = 1` is R205. -/
theorem longSilenceAfterNoiseLeadsToIdle : Obligations.LongSilenceAfterNoiseLeadsToIdle := by
  intro s hwait habandon h15 h35
  exact exec_tick_of_tmr35_one h15 h35 (expireTmr35_of_abandon hwait habandon)

/-- Settles O45: the expiry of `tmr35` in Wait with `ABANDON = 0` is R206. -/
theorem longSilenceInWaitCompletesTheFrame : Obligations.LongSilenceInWaitCompletesTheFrame := by
  intro s hwait habandon h15 h35
  rw [exec_tick_of_tmr35_one h15 h35 (expireTmr35_of_frame hwait habandon), frameDone_eq]

end Sys2Proof.Machine
end

section
/-! The transmit engine (spec/43_transmit.md R231 to R235): the word of `TX_START`, what each input of the engine does by
the guard of the rule it runs, and the three statements. -/

namespace Sys2Proof

/-- R106: opcode 4 is `TX_START` with its byte count. -/
theorem decodeCommand_cmdTxStart {n : Nat} (h : n < 512) :
    decodeCommand (commandWord 0x04#8 n) = some (.cmdTxStart n) := by
  simp [decodeCommand, commandWord_reserved, cmdN_commandWord _ h]

end Sys2Proof

namespace Sys2Proof.Machine

variable {s : State} {n : Nat}

/-! ### TX_START (R231) -/

/-- R231's guard: a frame is held and the byte count is one of the send buffer's. -/
theorem txStart_guard_iff :
    (s.held && decide (1 ≤ n) && decide (n ≤ 256)) = true ↔
      s.state = .wait ∧ s.rdRdy = true ∧ 1 ≤ n ∧ n ≤ 256 := by
  simp only [Bool.and_eq_true, held_iff, decide_eq_true_eq, and_assoc]

theorem execCmdTxStart_of_legal (h : s.state = .wait ∧ s.rdRdy = true ∧ 1 ≤ n ∧ n ≤ 256) :
    execCmdTxStart n s = answerWrite { s with
      rdRdy := false, crcOk := false, rxLen := 0, txLen := Len.ofCount n, txCur := 0, txie := true,
      state := .emission } :=
  if_pos (txStart_guard_iff.2 h)

theorem execCmdTxStart_of_illegal (h : ¬ (s.state = .wait ∧ s.rdRdy = true ∧ 1 ≤ n ∧ n ≤ 256)) :
    execCmdTxStart n s = rejectWrite s :=
  if_neg (mt txStart_guard_iff.1 h)

/-! ### TX_READY (R232, R233, R235) -/

theorem execTxReady_of_lt (h : s.state = .emission ∧ s.txie = true) (hcur : s.txCur.val < s.txLen.val) :
    execTxReady s = answerEmit (s.tx.read s.txCur.val) { s with txCur := Len.succ s.txCur } := by
  rw [execTxReady, if_pos h, if_pos hcur]

theorem execTxReady_of_le (h : s.state = .emission ∧ s.txie = true) (hcur : s.txLen.val ≤ s.txCur.val) :
    execTxReady s = answerEvent { s with txie := false }.startTmr35 := by
  rw [execTxReady, if_pos h, if_neg (Nat.not_lt.2 hcur)]

theorem execTxReady_of_not_sending (h : ¬ (s.state = .emission ∧ s.txie = true)) :
    execTxReady s = answerEvent s := if_neg h

/-! ### The end of the turnaround (R234) -/

theorem expireTmr35_of_emission (h : s.state = .emission) : s.expireTmr35 = s.emissionDone := by
  rw [State.expireTmr35, h]

/-- R234 with R40: the state it leaves, the counter as a number. -/
theorem emissionDone_eq (s : State) :
    s.emissionDone = { s with
      state := .idle, rxLen := 0, flags := { s.flags with txDone := true },
      stats := { s.stats with txFrames := countedUp s.stats.txFrames } } := by
  rw [← saturatingSucc_eq]
  rfl

/-! ### The statements -/

/-- Settles O33: R231's two guards, the length that holds `N`, and the command's word from its two fields. -/
theorem txStartQueuesTheResponse : Obligations.TxStartQueuesTheResponse := by
  intro n s
  have hword (hn : n < 512) := decode_cmdWrite (decodeCommand_cmdTxStart hn)
  refine ⟨hword, ?_, ?_⟩
  · intro hwait hready hlo hhi
    exact ⟨Len.ofCount n, Len.val_ofCount hhi, execCmdTxStart_of_legal ⟨hwait, hready, hlo, hhi⟩⟩
  · intro hillegal
    exact execCmdTxStart_of_illegal hillegal

/-- Settles O46: the expiry of `tmr35` in Emission is R234. -/
theorem longSilenceEndsTheEmission : Obligations.LongSilenceEndsTheEmission := by
  intro s hemission h15 h35
  rw [exec_tick_of_tmr35_one h15 h35 (expireTmr35_of_emission hemission), emissionDone_eq]

/-- Settles O48: the two sides of the cursor's bound while draining, and R235 otherwise. Below `tx_len` the cursor does
not saturate. -/
theorem txReadyDrainsThenTurnsAround : Obligations.TxReadyDrainsThenTurnsAround := by
  refine ⟨by decide, fun s => ⟨?_, ?_, ?_⟩⟩
  · intro hemission htxie hcur
    have hroom : s.txCur.val < 256 := Nat.lt_of_lt_of_le hcur (Len.val_le s.txLen)
    exact ⟨Len.succ s.txCur, Len.val_succ hroom, execTxReady_of_lt ⟨hemission, htxie⟩ hcur⟩
  · intro hemission htxie hcur
    exact execTxReady_of_le ⟨hemission, htxie⟩ hcur
  · intro hnot
    exact execTxReady_of_not_sending hnot

end Sys2Proof.Machine
end

section
/-! Decoding a host access (spec/30_encoding.md R103, R110, spec/44_host_access.md R261 to R263): the word of every
read, which offsets select a register, and which accesses answer `bus_error`. -/

namespace Sys2Proof

/-! ### The word of a host access -/

/-- R111: the word of a host read decodes by its size and offset. -/
theorem decode_stimulus_hostRd (size : BitVec 2) (off : Offset) :
    decode (stimulus .hostRd size off 0#32) = decodeRead size off := by
  simp [decode]

/-- R111: the word of a host write decodes by its size, offset and data. -/
theorem decode_stimulus_hostWr (size : BitVec 2) (off : Offset) (v : Word) :
    decode (stimulus .hostWr size off v) = decodeWrite size off v := by
  simp [decode]

/-- R103, R261: the word that reads a register decodes to its read. -/
theorem decode_encodeRead (r : Reg) : decode (encodeRead r) = .instr (readInstr r) := by
  rw [encodeRead, decode_stimulus_hostRd]
  simp [decodeRead, legalReg]

/-! ### The register map, on numbers -/

theorem toNat_append_eq_add {n m : Nat} (x : BitVec n) (y : BitVec m) :
    (x ++ y).toNat = x.toNat * 2 ^ m + y.toNat := by
  rw [BitVec.toNat_append, ← Nat.shiftLeft_add_eq_or_of_lt y.isLt, Nat.shiftLeft_eq]

theorem toNat_offset_rxbuf (i : Byte) : (Reg.rxbuf i).offset.toNat = 0x400 + 4 * i.toNat := by
  simp only [Reg.offset, toNat_append_eq_add, BitVec.toNat_ofNat]
  omega

theorem toNat_offset_txbuf (i : Byte) : (Reg.txbuf i).offset.toNat = 0x800 + 4 * i.toNat := by
  simp only [Reg.offset, toNat_append_eq_add, BitVec.toNat_ofNat]
  omega

/-- R103: the alignment test is on the offset's remainder by 4. -/
theorem offset_aligned_iff (off : Offset) : off.extractLsb' 0 2 = 0#2 ↔ off.toNat % 4 = 0 := by
  rw [← BitVec.toNat_inj, BitVec.extractLsb'_toNat, Nat.shiftRight_zero]
  rfl

/-- R103: `off[11:10]` is the number of the 1 KiB quarter of the window. -/
theorem offset_quarter_iff (off : Offset) (q : BitVec 2) : off.extractLsb' 10 2 = q ↔ off.toNat / 1024 = q.toNat := by
  have hlt := off.isLt
  rw [← BitVec.toNat_inj, BitVec.extractLsb'_toNat, Nat.shiftRight_eq_div_pow, Nat.mod_eq_of_lt (by omega)]

/-- An offset is its three fields of R103. -/
theorem offset_eq_fields (off : Offset) :
    off.extractLsb' 10 2 ++ off.extractLsb' 2 8 ++ off.extractLsb' 0 2 = off := by
  have hhigh : off.extractLsb' 10 2 ++ off.extractLsb' 2 8 = off.extractLsb' 2 10 :=
    BitVec.extractLsb'_append_extractLsb'_eq_extractLsb' rfl
  have hall : off.extractLsb' 2 10 ++ off.extractLsb' 0 2 = off.extractLsb' 0 12 :=
    BitVec.extractLsb'_append_extractLsb'_eq_extractLsb' rfl
  rw [hhigh, hall, extract_all]

/-- 10_state.md R41: the register that a named offset selects has that offset. -/
theorem offset_of_namedRegAt {off : Offset} {r : Reg} (h : namedRegAt off = some r) : r.offset = off := by
  unfold namedRegAt at h
  split at h <;> cases h <;> rfl

/-- R103: the register that an offset selects has that offset. -/
theorem offset_of_regAt {off : Offset} {r : Reg} (h : regAt off = some r) : r.offset = off := by
  have hoff := offset_eq_fields off
  unfold regAt at h
  split_ifs at h with halign hrx htx
  · cases h
    rwa [halign, hrx] at hoff
  · cases h
    rwa [halign, htx] at hoff
  · exact offset_of_namedRegAt h

/-- 10_state.md R41: below 0x400 the aligned offsets of no register are the two reserved ranges. -/
theorem namedRegAt_eq_none_iff {off : Offset} (halign : off.toNat % 4 = 0) :
    namedRegAt off = none ↔ (0x034 ≤ off.toNat ∧ off.toNat ≤ 0x03C) ∨ 0x054 ≤ off.toNat := by
  unfold namedRegAt
  split
  case h_19 =>
    simp only [← BitVec.toNat_inj, BitVec.toNat_ofNat, imp_false] at *
    simp only [true_iff]
    omega
  all_goals decide

/-- 20_memory.md R76: an offset selects no register exactly when it is unaligned or reserved. -/
theorem regAt_eq_none_iff (off : Offset) : regAt off = none ↔ ¬ Machine.offsetMapped off.toNat := by
  have hlt := off.isLt
  unfold regAt Machine.offsetMapped
  simp only [offset_aligned_iff, offset_quarter_iff, BitVec.toNat_ofNat]
  split_ifs with halign hrx htx
  · simp only [false_iff, not_not]
    omega
  · simp only [false_iff, not_not]
    omega
  · rw [namedRegAt_eq_none_iff halign]
    omega
  · simp only [halign, false_and, not_false_eq_true]

/-- R103, R263: a host access selects no register exactly when it is no 32-bit access or its offset is not mapped. -/
theorem legalReg_eq_none_iff (size : BitVec 2) (off : Offset) :
    legalReg size off = none ↔ ¬ (size = 2#2 ∧ Machine.offsetMapped off.toNat) := by
  unfold legalReg
  split_ifs with hsize
  · simp only [regAt_eq_none_iff, hsize, true_and]
  · simp only [hsize, false_and, not_false_eq_true]

theorem offset_of_legalReg {size : BitVec 2} {off : Offset} {r : Reg} (h : legalReg size off = some r) :
    r.offset = off := by
  unfold legalReg at h
  split_ifs at h
  exact offset_of_regAt h

/-! ### Which accesses answer `bus_error` -/

/-- R261: a read answers `bus_error` exactly where it selects no register. -/
theorem decodeRead_eq_busError_iff (size : BitVec 2) (off : Offset) :
    decodeRead size off = .busError false ↔ legalReg size off = none := by
  unfold decodeRead
  cases legalReg size off <;> simp

/-- R262: a write of a register answers `bus_error` exactly when its offset is a read-only one. -/
theorem writeDecoded_eq_busError_iff (v : Word) (r : Reg) :
    writeDecoded v r = .busError true ↔ Machine.offsetReadOnly r.offset.toNat := by
  cases r with
  | rxbuf i =>
    have hi := i.isLt
    simp only [writeDecoded, Machine.offsetReadOnly, toNat_offset_rxbuf, true_iff]
    omega
  | txbuf i =>
    simp only [writeDecoded, Machine.offsetReadOnly, toNat_offset_txbuf, reduceCtorEq, false_iff]
    omega
  | cmd =>
    simp only [writeDecoded]
    cases decodeCommand v <;> simp [Machine.offsetReadOnly, Reg.offset]
  | _ => simp [writeDecoded, Machine.offsetReadOnly, Reg.offset]

/-- R262, R263: a write answers `bus_error` exactly where it selects no register or a read-only one. -/
theorem decodeWrite_eq_busError_iff (size : BitVec 2) (off : Offset) (v : Word) :
    decodeWrite size off v = .busError true ↔ legalReg size off = none ∨ Machine.offsetReadOnly off.toNat := by
  unfold decodeWrite
  cases hreg : legalReg size off with
  | none => simp
  | some r => simp [writeDecoded_eq_busError_iff, offset_of_legalReg hreg]

/-! ### Illegal commands (R265, R269) -/

theorem plainCommand_eq_none_iff (n : Nat) (i : Instr) : plainCommand n i = none ↔ n ≠ 0 := by
  simp [plainCommand]

/-- R269: a CMD word is no command when a reserved bit is set, its opcode is above 8, or a command without operand has
one. -/
theorem decodeCommand_eq_none_iff (v : Word) :
    decodeCommand v = none ↔
      v &&& 0xFE00FF00#32 ≠ 0#32 ∨ 9 ≤ (cmdOp v).toNat ∨
        ((cmdOp v).toNat ∈ [0, 1, 2, 3, 5, 8] ∧ cmdN v ≠ 0) := by
  unfold decodeCommand
  split_ifs with hreserved
  · simp only [hreserved, not_false_eq_true, true_or, ne_eq]
  · rw [not_not] at hreserved
    split
    case h_10 =>
      simp only [← BitVec.toNat_inj, BitVec.toNat_ofNat, imp_false] at *
      simp only [true_iff]
      omega
    all_goals
      rename_i hop
      simp [hreserved, hop, plainCommand_eq_none_iff]

/-- R265: a CMD write is an illegal command exactly when its word is no command. -/
theorem writeDecoded_cmd_eq_illegalCommand_iff (v : Word) :
    writeDecoded v .cmd = .illegalCommand ↔ decodeCommand v = none := by
  unfold writeDecoded
  cases decodeCommand v <;> simp

end Sys2Proof
end

section
/-! The two classes of host words that are no instruction (spec/44_host_access.md R262, R263, R269): which words they
are, and what a step at one changes. -/

namespace Sys2Proof.Machine

variable {s : State} {w : StimulusWord} {rest : List StimulusWord}

/-- R111: a step runs what its oldest pending word decodes to, on the state without that word. -/
theorem step_of_stimuli {d : Decoded} (h : s.stimuli = w :: rest) (hd : decode w = d) :
    step s = runDecoded d { s with stimuli := rest } := by
  rw [step, fetch_cons h, ← hd]

/-- Settles O11: an access answers `bus_error` where it selects no register, or a read-only one for a write; the step at
it only drives the answer. -/
theorem busErrorAccessesChangeNothing : Obligations.BusErrorAccessesChangeNothing := by
  refine ⟨fun size off => ?_, fun size off v => ?_, ?_, ?_, rfl, rfl, rfl⟩
  · rw [← legalReg_eq_none_iff, ← decodeRead_eq_busError_iff, ← decode_stimulus_hostRd]
    rfl
  · rw [← legalReg_eq_none_iff, ← decodeWrite_eq_busError_iff, ← decode_stimulus_hostWr]
    rfl
  · intro s w rest hw hd
    exact step_of_stimuli hw hd
  · intro s w rest hw hd
    exact step_of_stimuli hw hd

/-- Settles O12: the word is a CMD write, so it is illegal exactly when its data is no command, and the step at it is a
rejected write. -/
theorem illegalCommandsOnlySetCmdErr : Obligations.IllegalCommandsOnlySetCmdErr := by
  refine ⟨fun v => ?_, ?_⟩
  · have hn : cmdN v ≠ 0 ↔ v.extractLsb' 16 9 ≠ 0#9 := not_congr (BitVec.toNat_inj (y := 0#9))
    have hword : decode (0x2200000C#32 ++ v) = writeDecoded v .cmd := decode_writeHeader_append .cmd v
    rw [hword, writeDecoded_cmd_eq_illegalCommand_iff, decodeCommand_eq_none_iff, hn]
    rfl
  · intro s w rest hw hd
    exact step_of_stimuli hw hd

end Sys2Proof.Machine
end

section
/-! What each host read returns (spec/44_host_access.md R261, R270): the value of its register, in the form of R261's
table. -/

namespace Sys2Proof.Machine

variable (s : State)

/-- R261, 20_memory.md R75: a read answers its register's value and changes nothing. -/
theorem exec_readInstr (r : Reg) :
    exec (readInstr r) s = .next { s with bus := .readOk (s.readReg r), txOut := none } := by
  cases r <;> rfl

/-! ### The fields of STATUS (10_state.md R22, R23) -/

theorem status_state : s.status.extractLsb' 0 3 = s.state.code := extract_append_low _ _

theorem status_session_bits :
    s.status.getLsbD 3 = s.rdRdy ∧ s.status.getLsbD 4 = s.crcOk ∧ s.status.getLsbD 5 = s.txie ∧
    s.status.getLsbD 6 = s.rxEnable ∧ s.status.getLsbD 7 = s.abandon := by
  simp only [State.status, BitVec.getLsbD_append, BitVec.getLsbD_ofBool]
  simp

theorem status_sticky_bits :
    s.status.getLsbD 8 = s.flags.txDone ∧ s.status.getLsbD 9 = s.flags.noise ∧
    s.status.getLsbD 10 = s.flags.rxOvf ∧ s.status.getLsbD 11 = s.flags.drop ∧
    s.status.getLsbD 12 = s.flags.cmdErr ∧ s.status.getLsbD 13 = s.flags.cfgErr := by
  simp only [State.status, BitVec.getLsbD_append, BitVec.getLsbD_ofBool]
  simp

theorem status_unused : s.status.extractLsb' 14 18 = 0#18 := by
  simp only [State.status, BitVec.extractLsb'_append_eq_of_le, Nat.reduceLeDiff, Nat.reduceSub,
    BitVec.extractLsb'_eq_self]

/-! ### Timers and buffers -/

/-- 10_state.md R35: a timer reads as `enabled` in bit 16 above its count. -/
theorem Timer.toNat_view (t : Timer) : t.view.toNat = t.enabled.toNat * 2 ^ 16 + t.count.toNat := by
  simp only [Timer.view, toNat_append_eq_add, BitVec.toNat_ofBool, BitVec.toNat_ofNat]
  omega

/-- R270. -/
theorem rxbufView_eq (i : Byte) :
    s.rxbufView i = if i.toNat < s.rxLen.val then 0#24 ++ s.rx.read i.toNat else 0#32 := by
  rw [State.rxbufView, BitVec.setWidth_eq_append (by omega)]
  rfl

/-- R261. -/
theorem txbufView_eq (i : Byte) : s.txbufView i = 0#24 ++ s.tx.read i.toNat :=
  BitVec.setWidth_eq_append (by omega)

theorem exec_rdRxbuf (i : Byte) :
    exec (.rdRxbuf i) s = .next { s with
      bus := .readOk (if i.toNat < s.rxLen.val then 0#24 ++ s.rx.read i.toNat else 0#32), txOut := none } := by
  rw [← rxbufView_eq]
  exact exec_readInstr s (.rxbuf i)

theorem exec_rdTxbuf (i : Byte) :
    exec (.rdTxbuf i) s = .next { s with bus := .readOk (0#24 ++ s.tx.read i.toNat), txOut := none } := by
  rw [← txbufView_eq]
  exact exec_readInstr s (.txbuf i)

/-- R261, `zext_32` of a 16-bit element. -/
theorem zext_half (h : Half) : h.setWidth 32 = 0#16 ++ h := BitVec.setWidth_eq_append (by omega)

theorem exec_rdT15 : exec .rdT15 s = .next { s with bus := .readOk (0#16 ++ s.t15), txOut := none } := by
  rw [← zext_half]
  exact exec_readInstr s .t15

theorem exec_rdT35 : exec .rdT35 s = .next { s with bus := .readOk (0#16 ++ s.t35), txOut := none } := by
  rw [← zext_half]
  exact exec_readInstr s .t35

theorem decode_rdRxbuf (i : Byte) : decode (0x12000#20 ++ (1#2 ++ i ++ 0#2) ++ 0#32) = .instr (.rdRxbuf i) :=
  decode_encodeRead (.rxbuf i)

theorem decode_rdTxbuf (i : Byte) : decode (0x12000#20 ++ (2#2 ++ i ++ 0#2) ++ 0#32) = .instr (.rdTxbuf i) :=
  decode_encodeRead (.txbuf i)

end Sys2Proof.Machine
end

section
/-! What each host write and the two plain commands do (spec/44_host_access.md R264 to R268, R272, R273): the whole next
state by the guard of its rule. -/

namespace Sys2Proof.Machine

variable (s : State) (v : Word)

/-- R264: a flag whose written bit is 1 goes to 0, every other keeps its value. -/
theorem writeOneToClear_eq (f : Flags) :
    f.writeOneToClear v =
      ⟨if v.getLsbD 8 then false else f.txDone, if v.getLsbD 9 then false else f.noise,
        if v.getLsbD 10 then false else f.rxOvf, if v.getLsbD 11 then false else f.drop,
        if v.getLsbD 12 then false else f.cmdErr, if v.getLsbD 13 then false else f.cfgErr⟩ := by
  have hclear (flag bit : Bool) : (flag && !bit) = if bit then false else flag := by cases bit <;> simp
  simp only [Flags.writeOneToClear, hclear]

theorem exec_wrIrqEn :
    exec (.wrIrqEn v) s = .next { s with irqEn := v &&& 0x00003F08#32, bus := .writeOk, txOut := none } := rfl

/-- R26: `irq` is high when STATUS has a bit that a stored mask enables. -/
theorem irq_iff_of_irqEn_masked (h : s.irqEn = v &&& irqMask) :
    s.irq = true ↔ s.status &&& v &&& irqMask ≠ 0#32 := by
  rw [State.irq, decide_eq_true_eq, h, ← BitVec.and_assoc, BitVec.and_assoc _ irqMask, BitVec.and_self]

variable {s}

theorem exec_wrT15_of_off (h : s.state = .off) :
    exec (.wrT15 v) s = .next { s with t15 := v.extractLsb' 0 16, bus := .writeOk, txOut := none } := if_pos h

theorem exec_wrT35_of_off (h : s.state = .off) :
    exec (.wrT35 v) s = .next { s with t35 := v.extractLsb' 0 16, bus := .writeOk, txOut := none } := if_pos h

theorem exec_wrT15_of_ne_off (h : s.state ≠ .off) : exec (.wrT15 v) s = rejectWrite s := if_neg h

theorem exec_wrT35_of_ne_off (h : s.state ≠ .off) : exec (.wrT35 v) s = rejectWrite s := if_neg h

theorem exec_wrTxbuf_of_emission (i : Byte) (h : s.state = .emission) : exec (.wrTxbuf i v) s = rejectWrite s :=
  if_pos h

theorem exec_wrTxbuf_of_ne_emission (i : Byte) (h : s.state ≠ .emission) :
    exec (.wrTxbuf i v) s =
      .next { s with tx := s.tx.write i.toNat (v.extractLsb' 0 8), bus := .writeOk, txOut := none } := if_neg h

end Sys2Proof.Machine
end

section
/-! The statements about the host's reads and writes (spec/44_host_access.md R261, R264, R266 to R268, R270, R272,
R273). -/

namespace Sys2Proof.Machine

/-- Settles O13: each word is its register's read word, and each read answers its register's value, which the lemmas
about STATUS, the lengths, the timers and the buffers give in the table's form. -/
theorem readsReturnTheTable : Obligations.ReadsReturnTheTable := by
  refine ⟨decode_encodeRead .id, decode_encodeRead .status, decode_encodeRead .irqEn, decode_encodeRead .cmd,
    decode_encodeRead .t15, decode_encodeRead .t35, decode_encodeRead .rxLen, decode_encodeRead .txLen,
    decode_encodeRead .txCur, decode_encodeRead .tmr15, decode_encodeRead .tmr35, decode_encodeRead .crcValue,
    decode_encodeRead .crcData, decode_encodeRead .statRxFrames, decode_encodeRead .statTxFrames,
    decode_encodeRead .statNoise, decode_encodeRead .statOverflow, decode_encodeRead .statDropped,
    fun i => ⟨decode_rdRxbuf i, decode_rdTxbuf i⟩, fun s => ?_⟩
  obtain ⟨hrdRdy, hcrcOk, htxie, hrxEnable, habandon⟩ := status_session_bits s
  obtain ⟨htxDone, hnoise, hrxOvf, hdrop, hcmdErr, hcfgErr⟩ := status_sticky_bits s
  have hread := exec_readInstr s
  exact ⟨hread .id,
    ⟨s.status, hread .status, status_state s, hrdRdy, hcrcOk, htxie, hrxEnable.trans (rxEnable_eq s), habandon,
      htxDone, hnoise, hrxOvf, hdrop, hcmdErr, hcfgErr, status_unused s⟩,
    hread .irqEn, hread .cmd, exec_rdT15 s, exec_rdT35 s,
    ⟨Len.view s.rxLen, hread .rxLen, Len.toNat_view s.rxLen⟩,
    ⟨Len.view s.txLen, hread .txLen, Len.toNat_view s.txLen⟩,
    ⟨Len.view s.txCur, hread .txCur, Len.toNat_view s.txCur⟩,
    ⟨s.tmr15.view, hread .tmr15, Timer.toNat_view s.tmr15⟩,
    ⟨s.tmr35.view, hread .tmr35, Timer.toNat_view s.tmr35⟩,
    exec_rdCrcValue s, hread .crcData, hread .statRxFrames, hread .statTxFrames, hread .statNoise,
    hread .statOverflow, hread .statDropped, exec_rdRxbuf s, exec_rdTxbuf s⟩

/-- Settles O19: R267's guard, and the buffer's read-after-write rule for every index. -/
theorem txbufWriteStoresOneByte : Obligations.TxbufWriteStoresOneByte := by
  intro i v s
  refine ⟨decode_writeHeader_append (.txbuf i) v, fun hwf hne => ?_, exec_wrTxbuf_of_emission v i⟩
  exact ⟨s.tx.write i.toNat (v.extractLsb' 0 8), exec_wrTxbuf_of_ne_emission v i hne, Memory.wf_write _ hwf i.isLt,
    Memory.read_write_same hwf _ _, fun j hj => Memory.read_write_of_ne hwf _ hj⟩

/-- Settles O14: the two sides of the bound `rx_len`. -/
theorem rxbufReadsTheCurrentFrame : Obligations.RxbufReadsTheCurrentFrame := by
  intro s i
  refine ⟨decode_rdRxbuf i, fun hlt => ?_, fun hle => ?_⟩
  · rw [exec_rdRxbuf, if_pos hlt]
  · rw [exec_rdRxbuf, if_neg (Nat.not_lt.2 hle)]

/-- Settles O16: the write is R264's clearing of the flags. -/
theorem statusWriteClearsTheNamedFlags : Obligations.StatusWriteClearsTheNamedFlags := by
  intro v s
  refine ⟨decode_writeHeader_append .status v, ?_⟩
  rw [← writeOneToClear_eq]
  rfl

/-- Settles O17: the write stores the mask and leaves STATUS as it was, so `irq` compares the old STATUS with it. -/
theorem irqEnWriteStoresTheMask : Obligations.IrqEnWriteStoresTheMask := by
  intro v s
  exact ⟨decode_writeHeader_append .irqEn v, _, exec_wrIrqEn s v, rfl, irq_iff_of_irqEn_masked _ v rfl⟩

/-- Settles O18: R266's guard for each of the two registers. -/
theorem timeoutWritesOnlyInOff : Obligations.TimeoutWritesOnlyInOff := by
  intro v s
  refine ⟨decode_writeHeader_append .t15 v, decode_writeHeader_append .t35 v, fun hoff => ?_, fun hne => ?_⟩
  · exact ⟨exec_wrT15_of_off v hoff, exec_wrT35_of_off v hoff⟩
  · exact ⟨exec_wrT15_of_ne_off v hne, exec_wrT35_of_ne_off v hne⟩

/-- Settles O34: both commands end in the answer of an accepted write. -/
theorem nopAndClrStats : Obligations.NopAndClrStats :=
  ⟨by decide, by decide, fun _ => ⟨rfl, rfl⟩⟩

end Sys2Proof.Machine
end

section
/-! The RESET event (spec/70_reset_and_hazards.md R330): its whole next state, and the statement about it. -/

namespace Sys2Proof.Machine

/-- R330: RESET leaves the reset state, and of the state before only the inputs still to come (log 4). -/
theorem exec_reset (s : State) : exec .reset s = .next { State.reset with stimuli := s.stimuli } := rfl

/-- Settles O2: after RESET the stored elements are those of `State.reset`, an empty buffer reads 0 at every index, and
the outputs are low because the mask is 0, the session is Off and no byte is emitted. -/
theorem resetEventResetsEveryElement : Obligations.ResetEventResetsEveryElement := by
  refine ⟨by decide, fun s => ⟨_, exec_reset s, ?_⟩⟩
  exact ⟨rfl, rfl, rfl, rfl, rfl, rfl, rfl, rfl, rfl, rfl, rfl, rfl, rfl, rfl, rfl, rfl, rfl, Memory.read_nil, rfl, rfl,
    Memory.read_nil, rfl, rfl, rfl, rfl, rfl, rfl, irq_eq_false_of_irqEn_eq_zero rfl, rxEnable_eq_false_of_off rfl,
    txValid_eq_false_of_txOut_eq_none rfl⟩

end Sys2Proof.Machine
end

section
/-! What one instruction does, said once: the rule it runs, with that rule's guard and its whole next state. The
statements about every instruction (spec/10_state.md R24, R40, R43; spec/40_crc.md R150; spec/42_receive.md R210;
spec/43_transmit.md R236; spec/60_exceptions.md R315) are case splits on this relation. -/

namespace Sys2Proof.Machine

/-- 44_host_access.md R260: the writes and commands that their rule rejects, with the guard that does. -/
def Rejected (s : State) : Instr → Prop
  | .cmdStart | .wrT15 _ | .wrT35 _ => s.state ≠ .off
  | .cmdRelease => ¬ (s.state = .wait ∧ s.rdRdy = true)
  | .cmdTxStart n => ¬ (s.state = .wait ∧ s.rdRdy = true ∧ 1 ≤ n ∧ n ≤ 256)
  | .cmdCrcRx n => s.rxLen.val < n
  | .cmdCrcTx n => 256 < n
  | .wrTxbuf _ _ => s.state = .emission
  | _ => False

/-- 40_crc.md R144 to R148: the value an accepted operation of the CRC unit leaves in `crc`. -/
inductive CrcResult (s : State) : Instr → Half → Prop
  | value (v : Word) : CrcResult s (.wrCrcValue v) (v.extractLsb' 0 16)
  | data (v : Word) : CrcResult s (.wrCrcData v) (crcStep s.crc (dataByte v))
  | init : CrcResult s .cmdCrcInit 0xFFFF#16
  | rx {n : Nat} (h : n ≤ s.rxLen.val) : CrcResult s (.cmdCrcRx n) (crcOfBytes (firstBytes s.rx n))
  | tx {n : Nat} (h : n ≤ 256) : CrcResult s (.cmdCrcTx n) (crcOfBytes (firstBytes s.tx n))

/-- The rules of the block as a relation: `Rule s i t` when instruction `i` takes `s` to `t`, one constructor for each
guard of each rule. -/
inductive Rule (s : State) : Instr → State → Prop
  /-- R261, R270. -/
  | read (r : Reg) : Rule s (readInstr r) { s with bus := .readOk (s.readReg r), txOut := none }
  /-- R260. -/
  | reject {i : Instr} (h : Rejected s i) :
    Rule s i { s with flags := { s.flags with cmdErr := true }, bus := .writeOk, txOut := none }
  /-- R144 to R148. -/
  | crcUnit {i : Instr} {c : Half} (h : CrcResult s i c) : Rule s i { s with crc := c, bus := .writeOk, txOut := none }
  /-- R273. -/
  | nop : Rule s .cmdNop { s with bus := .writeOk, txOut := none }
  /-- R272. -/
  | clrStats :
    Rule s .cmdClrStats { s with stats := ⟨0#32, 0#32, 0#32, 0#32, 0#32⟩, bus := .writeOk, txOut := none }
  /-- R264. -/
  | wrStatus (v : Word) :
    Rule s (.wrStatus v) { s with flags := s.flags.writeOneToClear v, bus := .writeOk, txOut := none }
  /-- R268. -/
  | wrIrqEn (v : Word) : Rule s (.wrIrqEn v) { s with irqEn := v &&& 0x00003F08#32, bus := .writeOk, txOut := none }
  /-- R266. -/
  | wrT15 (v : Word) (h : s.state = .off) :
    Rule s (.wrT15 v) { s with t15 := v.extractLsb' 0 16, bus := .writeOk, txOut := none }
  | wrT35 (v : Word) (h : s.state = .off) :
    Rule s (.wrT35 v) { s with t35 := v.extractLsb' 0 16, bus := .writeOk, txOut := none }
  /-- R267. -/
  | wrTxbuf (k : Byte) (v : Word) (h : s.state ≠ .emission) :
    Rule s (.wrTxbuf k v) { s with tx := s.tx.write k.toNat (v.extractLsb' 0 8), bus := .writeOk, txOut := none }
  /-- R191. -/
  | startIllegal (h : s.state = .off) (ht : ¬ (1 ≤ s.t15.toNat ∧ s.t15.toNat < s.t35.toNat)) :
    Rule s .cmdStart { s with flags := { s.flags with cfgErr := true }, bus := .writeOk, txOut := none }
  | start (h : s.state = .off) (ht : 1 ≤ s.t15.toNat ∧ s.t15.toNat < s.t35.toNat) :
    Rule s .cmdStart { s with
      state := .init, rxLen := 0, rdRdy := false, crcOk := false, abandon := false, txLen := 0, txCur := 0,
      txie := false, tmr15 := ⟨false, 0#16⟩, tmr35 := ⟨true, s.t35⟩, bus := .writeOk, txOut := none }
  /-- R192. -/
  | stopInOff (h : s.state = .off) : Rule s .cmdStop { s with bus := .writeOk, txOut := none }
  | stop (h : s.state ≠ .off) :
    Rule s .cmdStop { s with
      state := .off, rxLen := 0, rdRdy := false, crcOk := false, abandon := false, txLen := 0, txCur := 0,
      txie := false, tmr15 := ⟨false, 0#16⟩, tmr35 := ⟨false, 0#16⟩, bus := .writeOk, txOut := none }
  /-- R208. -/
  | release (h : s.state = .wait ∧ s.rdRdy = true) :
    Rule s .cmdRelease { s with
      rdRdy := false, crcOk := false, rxLen := 0, state := .idle, bus := .writeOk, txOut := none }
  /-- R231. -/
  | txStart {n : Nat} (h : s.state = .wait ∧ s.rdRdy = true ∧ 1 ≤ n ∧ n ≤ 256) :
    Rule s (.cmdTxStart n) { s with
      rdRdy := false, crcOk := false, rxLen := 0, txLen := Len.ofCount n, txCur := 0, txie := true,
      state := .emission, bus := .writeOk, txOut := none }
  /-- R200. -/
  | byteLost (b : Byte) (h : s.state = .off ∨ s.state = .emission) :
    Rule s (.rxByte b) { s with bus := .noAccess, txOut := none }
  /-- R197. -/
  | byteInInit (b : Byte) (h : s.state = .init) :
    Rule s (.rxByte b) { s with tmr35 := ⟨true, s.t35⟩, bus := .noAccess, txOut := none }
  /-- R194. -/
  | firstByte (b : Byte) (h : s.state = .idle) :
    Rule s (.rxByte b) { s with
      rx := s.rx.write 0 b, rxLen := 1, tmr15 := ⟨true, s.t15⟩, tmr35 := ⟨true, s.t35⟩, state := .reception,
      bus := .noAccess, txOut := none }
  /-- R195. -/
  | nextByte (b : Byte) (h : s.state = .reception) (hlen : s.rxLen.val < 256) :
    Rule s (.rxByte b) { s with
      rx := s.rx.write s.rxLen.val b, rxLen := Len.succ s.rxLen, tmr15 := ⟨true, s.t15⟩, tmr35 := ⟨true, s.t35⟩,
      bus := .noAccess, txOut := none }
  /-- R203. -/
  | overflow (b : Byte) (h : s.state = .reception) (hlen : s.rxLen.val = 256) :
    Rule s (.rxByte b) { s with
      rxLen := 0, tmr15 := ⟨false, 0#16⟩, tmr35 := ⟨false, 0#16⟩, state := .idle, flags := s.flags.set .rxOvf,
      stats := s.stats.bump .overflow, bus := .noAccess, txOut := none }
  /-- R204. -/
  | noise (b : Byte) (h : s.state = .wait) (hr : s.rdRdy = false) :
    Rule s (.rxByte b) { s with
      abandon := true, rxLen := 0, tmr35 := ⟨true, s.t35⟩, flags := s.flags.set .noise, stats := s.stats.bump .noise,
      bus := .noAccess, txOut := none }
  /-- R207. -/
  | drop (b : Byte) (h : s.state = .wait) (hr : s.rdRdy = true) :
    Rule s (.rxByte b) { s with
      flags := s.flags.set .drop, stats := s.stats.bump .dropped, bus := .noAccess, txOut := none }
  /-- R232. -/
  | emit (h : s.state = .emission ∧ s.txie = true) (hcur : s.txCur.val < s.txLen.val) :
    Rule s .txReady { s with
      txCur := Len.succ s.txCur, bus := .noAccess, txOut := some (s.tx.read s.txCur.val) }
  /-- R233. -/
  | drained (h : s.state = .emission ∧ s.txie = true) (hcur : s.txLen.val ≤ s.txCur.val) :
    Rule s .txReady { s with txie := false, tmr35 := ⟨true, s.t35⟩, bus := .noAccess, txOut := none }
  /-- R235. -/
  | notSending (h : ¬ (s.state = .emission ∧ s.txie = true)) :
    Rule s .txReady { s with bus := .noAccess, txOut := none }
  /-- R172; what the two timers do is `tickTmr15_cases` and `tickTmr35_cases`. -/
  | tick : Rule s .tick { s.tickTmr15.tickTmr35 with bus := .noAccess, txOut := none }
  /-- R330. -/
  | reset : Rule s .reset { State.reset with stimuli := s.stimuli }

variable {s t : State} {i : Instr}

/-! ### Every rule is what `exec` answers -/

theorem exec_of_rejected (h : Rejected s i) : exec i s = rejectWrite s := by
  cases i with
  | cmdStart => exact execCmdStart_of_ne_off h
  | cmdRelease => exact execCmdRelease_of_not_held h
  | cmdTxStart n => exact execCmdTxStart_of_illegal h
  | cmdCrcRx n => exact exec_cmdCrcRx_of_rxLen_lt s h
  | cmdCrcTx n => exact exec_cmdCrcTx_of_256_lt s h
  | wrT15 v => exact exec_wrT15_of_ne_off v h
  | wrT35 v => exact exec_wrT35_of_ne_off v h
  | wrTxbuf k v => exact exec_wrTxbuf_of_emission v k h
  | _ => exact h.elim

theorem exec_of_crcResult {c : Half} (h : CrcResult s i c) :
    exec i s = .next { s with crc := c, bus := .writeOk, txOut := none } := by
  cases h with
  | value v => exact exec_wrCrcValue s v
  | data v => exact exec_wrCrcData s v
  | init => exact exec_cmdCrcInit s
  | rx h => exact exec_cmdCrcRx_of_le_rxLen s h
  | tx h => exact exec_cmdCrcTx_of_le_256 s h

theorem exec_of_receive {b : Byte} {u : State} (h : s.receive b = u) :
    exec (.rxByte b) s = .next { u with bus := .noAccess, txOut := none } := by
  rw [exec_rxByte, h]

theorem exec_of_rule (h : Rule s i t) : exec i s = .next t := by
  cases h with
  | read r => exact exec_readInstr s r
  | reject h => exact exec_of_rejected h
  | crcUnit h => exact exec_of_crcResult h
  | nop | clrStats | wrStatus | wrIrqEn | tick | reset => rfl
  | wrT15 v h => exact exec_wrT15_of_off v h
  | wrT35 v h => exact exec_wrT35_of_off v h
  | wrTxbuf k v h => exact exec_wrTxbuf_of_ne_emission v k h
  | startIllegal h ht => exact execCmdStart_of_illegal h ht
  | start h ht => exact execCmdStart_of_legal h ht
  | stopInOff h => exact execCmdStop_of_off h
  | stop h => exact execCmdStop_of_ne_off h
  | release h => exact execCmdRelease_of_held h
  | txStart h => exact execCmdTxStart_of_legal h
  | byteLost b h => exact exec_of_receive (receive_of_off_or_emission b h)
  | byteInInit b h => exact exec_of_receive (receive_of_init b h)
  | firstByte b h => exact exec_of_receive (receive_of_idle b h)
  | nextByte b h hlen => exact exec_of_receive (receive_of_reception_lt b h hlen)
  | overflow b h hlen => exact exec_of_receive (receive_of_reception_full b h hlen)
  | noise b h hr => exact exec_of_receive (receive_of_wait_not_ready b h hr)
  | drop b h hr => exact exec_of_receive (receive_of_held b h hr)
  | emit h hcur => exact execTxReady_of_lt h hcur
  | drained h hcur => exact execTxReady_of_le h hcur
  | notSending h => exact execTxReady_of_not_sending h

/-! ### Every instruction runs a rule in every state -/

theorem exists_rule_of_rejected_or {u : State} (h : ¬ Rejected s i → Rule s i u) : ∃ t, Rule s i t := by
  by_cases hr : Rejected s i
  · exact ⟨_, .reject hr⟩
  · exact ⟨u, h hr⟩

theorem exists_rule_cmdStart (s : State) : ∃ t, Rule s .cmdStart t := by
  by_cases hoff : s.state = .off
  · by_cases ht : 1 ≤ s.t15.toNat ∧ s.t15.toNat < s.t35.toNat
    · exact ⟨_, .start hoff ht⟩
    · exact ⟨_, .startIllegal hoff ht⟩
  · exact ⟨_, .reject hoff⟩

theorem exists_rule_rxByte (s : State) (b : Byte) : ∃ t, Rule s (.rxByte b) t := by
  cases hs : s.state with
  | off => exact ⟨_, .byteLost b (.inl hs)⟩
  | init => exact ⟨_, .byteInInit b hs⟩
  | idle => exact ⟨_, .firstByte b hs⟩
  | reception =>
    rcases Nat.lt_or_eq_of_le (Len.val_le s.rxLen) with hlt | hfull
    · exact ⟨_, .nextByte b hs hlt⟩
    · exact ⟨_, .overflow b hs hfull⟩
  | wait =>
    cases hr : s.rdRdy with
    | false => exact ⟨_, .noise b hs hr⟩
    | true => exact ⟨_, .drop b hs hr⟩
  | emission => exact ⟨_, .byteLost b (.inr hs)⟩

theorem exists_rule_txReady (s : State) : ∃ t, Rule s .txReady t := by
  by_cases hsend : s.state = .emission ∧ s.txie = true
  · rcases Nat.lt_or_ge s.txCur.val s.txLen.val with hlt | hge
    · exact ⟨_, .emit hsend hlt⟩
    · exact ⟨_, .drained hsend hge⟩
  · exact ⟨_, .notSending hsend⟩

/-- R261: the twenty reads are the reads of the registers. -/
theorem exists_readInstr_of_isRead (h : isRead i = true) : ∃ r, i = readInstr r := by
  cases i with
  | rdId => exact ⟨.id, rfl⟩
  | rdStatus => exact ⟨.status, rfl⟩
  | rdIrqEn => exact ⟨.irqEn, rfl⟩
  | rdCmd => exact ⟨.cmd, rfl⟩
  | rdT15 => exact ⟨.t15, rfl⟩
  | rdT35 => exact ⟨.t35, rfl⟩
  | rdRxLen => exact ⟨.rxLen, rfl⟩
  | rdTxLen => exact ⟨.txLen, rfl⟩
  | rdTxCur => exact ⟨.txCur, rfl⟩
  | rdTmr15 => exact ⟨.tmr15, rfl⟩
  | rdTmr35 => exact ⟨.tmr35, rfl⟩
  | rdCrcValue => exact ⟨.crcValue, rfl⟩
  | rdCrcData => exact ⟨.crcData, rfl⟩
  | rdStatRxFrames => exact ⟨.statRxFrames, rfl⟩
  | rdStatTxFrames => exact ⟨.statTxFrames, rfl⟩
  | rdStatNoise => exact ⟨.statNoise, rfl⟩
  | rdStatOverflow => exact ⟨.statOverflow, rfl⟩
  | rdStatDropped => exact ⟨.statDropped, rfl⟩
  | rdRxbuf k => exact ⟨.rxbuf k, rfl⟩
  | rdTxbuf k => exact ⟨.txbuf k, rfl⟩
  | _ => cases h

theorem isRead_readInstr (r : Reg) : isRead (readInstr r) = true := by cases r <;> rfl

/-- A read is none of the inputs that are no read. -/
theorem readInstr_ne (r : Reg) (h : isRead i = false) : readInstr r ≠ i := by
  rintro rfl
  exact Bool.noConfusion (h.symm.trans (isRead_readInstr r))

theorem exists_rule_of_isRead (s : State) (h : isRead i = true) : ∃ t, Rule s i t := by
  obtain ⟨r, rfl⟩ := exists_readInstr_of_isRead h
  exact ⟨_, .read r⟩

theorem exists_rule (s : State) (i : Instr) : ∃ t, Rule s i t := by
  cases i with
  | cmdNop => exact ⟨_, .nop⟩
  | cmdStart => exact exists_rule_cmdStart s
  | cmdStop =>
    by_cases hoff : s.state = .off
    · exact ⟨_, .stopInOff hoff⟩
    · exact ⟨_, .stop hoff⟩
  | cmdRelease => exact exists_rule_of_rejected_or fun h => .release (not_not.1 h)
  | cmdTxStart n => exact exists_rule_of_rejected_or fun h => .txStart (not_not.1 h)
  | cmdCrcInit => exact ⟨_, .crcUnit .init⟩
  | cmdCrcRx n => exact exists_rule_of_rejected_or fun h => .crcUnit (.rx (not_lt.1 h))
  | cmdCrcTx n => exact exists_rule_of_rejected_or fun h => .crcUnit (.tx (not_lt.1 h))
  | cmdClrStats => exact ⟨_, .clrStats⟩
  | wrStatus v => exact ⟨_, .wrStatus v⟩
  | wrIrqEn v => exact ⟨_, .wrIrqEn v⟩
  | wrT15 v => exact exists_rule_of_rejected_or fun h => .wrT15 v (not_not.1 h)
  | wrT35 v => exact exists_rule_of_rejected_or fun h => .wrT35 v (not_not.1 h)
  | wrCrcValue v => exact ⟨_, .crcUnit (.value v)⟩
  | wrCrcData v => exact ⟨_, .crcUnit (.data v)⟩
  | wrTxbuf k v => exact exists_rule_of_rejected_or fun h => .wrTxbuf k v h
  | rxByte b => exact exists_rule_rxByte s b
  | tick => exact ⟨_, .tick⟩
  | txReady => exact exists_rule_txReady s
  | reset => exact ⟨_, .reset⟩
  | _ => exact exists_rule_of_isRead s rfl

/-- The relation is `exec`: each rule is what it answers, and it answers nothing else. -/
theorem exec_eq_next_iff : exec i s = .next t ↔ Rule s i t := by
  refine ⟨fun h => ?_, exec_of_rule⟩
  obtain ⟨u, hu⟩ := exists_rule s i
  have htu : t = u := by
    injection h.symm.trans (exec_of_rule hu)
  exact htu ▸ hu

end Sys2Proof.Machine
end

section
/-! What a TICK leaves unchanged (spec/41_timers.md R172): each of its two parts moves its own timer and what that
timer's expiry writes. -/

namespace Sys2Proof.Machine

variable (s : State)

theorem tickTmr15_frame : s.tickTmr15 = { s with tmr15 := s.tickTmr15.tmr15, state := s.tickTmr15.state } := by
  rcases tickTmr15_cases s with h | ⟨-, -, h⟩ <;> rw [h]

theorem tickTmr35_frame :
    s.tickTmr35 = { s with
      tmr35 := s.tickTmr35.tmr35, state := s.tickTmr35.state, abandon := s.tickTmr35.abandon,
      rxLen := s.tickTmr35.rxLen, rdRdy := s.tickTmr35.rdRdy, crcOk := s.tickTmr35.crcOk,
      flags := s.tickTmr35.flags, stats := s.tickTmr35.stats } := by
  rcases tickTmr35_cases s with h | ⟨-, ⟨-, h⟩ | ⟨-, -, h⟩ | ⟨-, -, h⟩ | ⟨-, h⟩⟩ <;> rw [h]

@[simp] theorem tickTmr15_flags : s.tickTmr15.flags = s.flags := by rw [tickTmr15_frame]
@[simp] theorem tickTmr15_stats : s.tickTmr15.stats = s.stats := by rw [tickTmr15_frame]

@[simp] theorem tick_crc : s.tickTmr15.tickTmr35.crc = s.crc := by
  rw [tickTmr35_frame, tickTmr15_frame]
@[simp] theorem tick_stimuli : s.tickTmr15.tickTmr35.stimuli = s.stimuli := by
  rw [tickTmr35_frame, tickTmr15_frame]
@[simp] theorem tick_tx : s.tickTmr15.tickTmr35.tx = s.tx := by
  rw [tickTmr35_frame, tickTmr15_frame]
@[simp] theorem tick_txLen : s.tickTmr15.tickTmr35.txLen = s.txLen := by
  rw [tickTmr35_frame, tickTmr15_frame]
@[simp] theorem tick_txCur : s.tickTmr15.tickTmr35.txCur = s.txCur := by
  rw [tickTmr35_frame, tickTmr15_frame]

/-- R234: the only flag a TICK sets is `TX_DONE`. -/
theorem tick_flags :
    s.tickTmr15.tickTmr35.flags = s.flags ∨ s.tickTmr15.tickTmr35.flags = s.flags.set .txDone := by
  rcases tickTmr35_cases s.tickTmr15 with h | ⟨-, ⟨-, h⟩ | ⟨-, -, h⟩ | ⟨-, -, h⟩ | ⟨-, h⟩⟩ <;> rw [h] <;> simp

/-- R206, R234: a TICK counts at most one frame. -/
theorem tick_stats :
    s.tickTmr15.tickTmr35.stats = s.stats ∨ ∃ c, s.tickTmr15.tickTmr35.stats = s.stats.bump c := by
  rcases tickTmr35_cases s.tickTmr15 with h | ⟨-, ⟨-, h⟩ | ⟨-, -, h⟩ | ⟨-, -, h⟩ | ⟨-, h⟩⟩ <;> rw [h] <;> simp

theorem tickTmr15_state :
    s.tickTmr15.state = s.state ∨ (s.state = .reception ∧ s.tickTmr15.state = .wait) := by
  rcases tickTmr15_cases s with h | ⟨-, hrec, h⟩ <;> rw [h]
  · exact .inl rfl
  · exact .inr ⟨hrec, rfl⟩

theorem tickTmr35_state :
    s.tickTmr35.state = s.state ∨ (s.state ≠ .off ∧ s.tickTmr35.state = .idle) := by
  rcases tickTmr35_cases s with h | ⟨-, ⟨hs, h⟩ | ⟨hs, -, h⟩ | ⟨hs, -, h⟩ | ⟨hs, h⟩⟩ <;> rw [h]
  · exact .inl rfl
  · exact .inr ⟨by simp [hs], rfl⟩
  · exact .inr ⟨by simp [hs], rfl⟩
  · exact .inl rfl
  · exact .inr ⟨by simp [hs], rfl⟩

/-- R173: a TICK changes the session to Wait or Idle only, and not from Off. -/
theorem tick_state :
    s.tickTmr15.tickTmr35.state = s.state ∨
      (s.state ≠ .off ∧ (s.tickTmr15.tickTmr35.state = .wait ∨ s.tickTmr15.tickTmr35.state = .idle)) := by
  rcases tickTmr15_state s with h15 | ⟨hrec, h15⟩ <;> rcases tickTmr35_state s.tickTmr15 with h35 | ⟨hne, h35⟩
  · exact .inl (h35.trans h15)
  · exact .inr ⟨h15 ▸ hne, .inr h35⟩
  · exact .inr ⟨by simp [hrec], .inl (h35.trans h15)⟩
  · exact .inr ⟨by simp [hrec], .inr h35⟩

end Sys2Proof.Machine
end

section
/-! What any instruction can do to one element of the block, read off the rules. -/

namespace Sys2Proof.Machine

variable {s t : State} {i : Instr}

/-! ### The sticky flags and the counters (10_state.md R24, R40) -/

theorem flags_of_rule (h : Rule s i t) :
    t.flags = s.flags ∨ (∃ f, t.flags = s.flags.set f) ∨
      (∃ v, i = .wrStatus v ∧ t.flags = s.flags.writeOneToClear v) ∨ i = .reset := by
  cases h with
  | wrStatus v => exact .inr (.inr (.inl ⟨v, rfl, rfl⟩))
  | reject => exact .inr (.inl ⟨.cmdErr, rfl⟩)
  | startIllegal => exact .inr (.inl ⟨.cfgErr, rfl⟩)
  | overflow => exact .inr (.inl ⟨.rxOvf, rfl⟩)
  | noise => exact .inr (.inl ⟨.noise, rfl⟩)
  | drop => exact .inr (.inl ⟨.drop, rfl⟩)
  | tick => exact (tick_flags s).imp id fun htx => .inl ⟨.txDone, htx⟩
  | reset => exact .inr (.inr (.inr rfl))
  | _ => exact .inl rfl

theorem stats_of_rule (h : Rule s i t) :
    t.stats = s.stats ∨ (∃ c, t.stats = s.stats.bump c) ∨ i = .cmdClrStats ∨ i = .reset := by
  cases h with
  | clrStats => exact .inr (.inr (.inl rfl))
  | overflow => exact .inr (.inl ⟨.overflow, rfl⟩)
  | noise => exact .inr (.inl ⟨.noise, rfl⟩)
  | drop => exact .inr (.inl ⟨.dropped, rfl⟩)
  | tick => exact (tick_stats s).imp id .inl
  | reset => exact .inr (.inr (.inr rfl))
  | _ => exact .inl rfl

/-! ### The inputs still to come, `crc` and `state` -/

theorem stimuli_of_rule (h : Rule s i t) : t.stimuli = s.stimuli := by
  cases h with
  | tick => exact tick_stimuli s
  | _ => rfl

theorem writesCrc_of_crcResult {c : Half} (h : CrcResult s i c) : writesCrc i = true := by
  cases h <;> rfl

/-- 40_crc.md R150: only the CRC unit and reset write `crc`. -/
theorem crc_of_rule (hi : writesCrc i = false) (h : Rule s i t) : t.crc = s.crc := by
  cases h with
  | crcUnit hc => exact Bool.noConfusion (hi.symm.trans (writesCrc_of_crcResult hc))
  | tick => exact tick_crc s
  | reset => cases hi
  | _ => rfl

/-- 60_exceptions.md R315, 43_transmit.md R231: the session stays, or an accepted START or TX_START runs, or the block
goes to a state that is not Emission and, unless it is Off, not from Off. -/
theorem state_of_rule (h : Rule s i t) :
    t.state = s.state ∨
    (i = .cmdStart ∧ s.state = .off ∧ t.state = .init ∧ 1 ≤ s.t15.toNat ∧ s.t15.toNat < s.t35.toNat) ∨
    ((∃ n, i = .cmdTxStart n ∧ 1 ≤ n ∧ n ≤ 256) ∧ s.state = .wait ∧ s.rdRdy = true ∧ t.state = .emission) ∨
    (t.state ≠ .emission ∧ (t.state = .off ∨ s.state ≠ .off)) := by
  cases h with
  | start hoff ht => exact .inr (.inl ⟨rfl, hoff, rfl, ht⟩)
  | txStart hn =>
    obtain ⟨hwait, hready, hlo, hhi⟩ := hn
    exact .inr (.inr (.inl ⟨⟨_, rfl, hlo, hhi⟩, hwait, hready, rfl⟩))
  | stop | reset => exact .inr (.inr (.inr ⟨nofun, .inl rfl⟩))
  | release hheld => exact .inr (.inr (.inr ⟨nofun, .inr (by simp [hheld])⟩))
  | firstByte b hs => exact .inr (.inr (.inr ⟨nofun, .inr (by simp [hs])⟩))
  | overflow b hs => exact .inr (.inr (.inr ⟨nofun, .inr (by simp [hs])⟩))
  | tick =>
    rcases tick_state s with hsame | ⟨hne, hs⟩
    · exact .inl hsame
    · exact .inr (.inr (.inr ⟨by rcases hs with hs | hs <;> simp [hs], .inr hne⟩))
  | _ => exact .inl rfl

/-! ### The send buffer and the line (43_transmit.md R231 to R236) -/

/-- R232's guard: a TX_READY that emits. -/
def Emits (s : State) (i : Instr) : Prop :=
  i = .txReady ∧ s.state = .emission ∧ s.txie = true ∧ s.txCur.val < s.txLen.val

theorem txOut_of_rule (h : Rule s i t) :
    (¬ Emits s i ∧ t.txOut = none) ∨ (Emits s i ∧ t.txOut = some (s.tx.read s.txCur.val)) := by
  cases h with
  | emit hsend hcur => exact .inr ⟨⟨rfl, hsend.1, hsend.2, hcur⟩, rfl⟩
  | drained _ hcur => exact .inl ⟨fun ⟨_, _, _, hlt⟩ => Nat.not_lt.2 hcur hlt, rfl⟩
  | notSending hnot => exact .inl ⟨fun ⟨_, hs, htxie, _⟩ => hnot ⟨hs, htxie⟩, rfl⟩
  | read r => exact .inl ⟨fun ⟨hi, _⟩ => readInstr_ne r rfl hi, rfl⟩
  | reject hrej => exact .inl ⟨(by rintro ⟨rfl, -⟩; exact hrej), rfl⟩
  | crcUnit hc => exact .inl ⟨(by rintro ⟨rfl, -⟩; cases hc), rfl⟩
  | _ => exact .inl ⟨nofun, rfl⟩

/-- In Emission only STOP and reset change the response, and only a byte emitted moves the cursor. -/
theorem response_of_rule (hs : s.state = .emission) (hstop : i ≠ .cmdStop) (hreset : i ≠ .reset) (h : Rule s i t) :
    t.tx = s.tx ∧ t.txLen = s.txLen ∧ (t.txOut = none → t.txCur = s.txCur) := by
  cases h with
  | wrTxbuf _ _ hne => exact absurd hs hne
  | start hoff => exact nomatch hoff.symm.trans hs
  | txStart hheld => exact nomatch hheld.1.symm.trans hs
  | stop => exact absurd rfl hstop
  | reset => exact absurd rfl hreset
  | emit => exact ⟨rfl, rfl, nofun⟩
  | tick => exact ⟨tick_tx s, tick_txLen s, fun _ => tick_txCur s⟩
  | _ => exact ⟨rfl, rfl, fun _ => rfl⟩

end Sys2Proof.Machine
end

section
/-! The sticky flags and the counters over every instruction (spec/10_state.md R24, R40). -/

namespace Sys2Proof.Machine

/-- 10_state.md R23: a sticky flag by its name, and its bit of STATUS. -/
def Flags.get (f : Flags) : StickyFlag → Bool
  | .txDone => f.txDone
  | .noise => f.noise
  | .rxOvf => f.rxOvf
  | .drop => f.drop
  | .cmdErr => f.cmdErr
  | .cfgErr => f.cfgErr

def StickyFlag.bit : StickyFlag → Nat
  | .txDone => 8
  | .noise => 9
  | .rxOvf => 10
  | .drop => 11
  | .cmdErr => 12
  | .cfgErr => 13

theorem Flags.get_set (f : Flags) (a b : StickyFlag) : (f.set b).get a = (f.get a || decide (a = b)) := by
  cases a <;> cases b <;> simp [Flags.get, Flags.set]

/-- R264: a flag survives a STATUS write whose bit for it is 0. -/
theorem Flags.get_writeOneToClear (f : Flags) (v : Word) (a : StickyFlag) :
    (f.writeOneToClear v).get a = (f.get a && !v.getLsbD a.bit) := by
  cases a <;> rfl

/-- R24: only a STATUS write of 1 to its bit, and reset, clear a sticky flag. -/
theorem flag_stays {s t : State} {i : Instr} (a : StickyFlag) (h : Rule s i t) (hi : i ≠ .reset)
    (hset : s.flags.get a = true) (hwrite : ∀ v, i = .wrStatus v → v.getLsbD a.bit = false) :
    t.flags.get a = true := by
  rcases flags_of_rule h with hf | ⟨b, hf⟩ | ⟨v, hv, hf⟩ | hreset
  · rw [hf, hset]
  · rw [hf, Flags.get_set, hset, Bool.true_or]
  · rw [hf, Flags.get_writeOneToClear, hset, hwrite v hv]
    rfl
  · exact absurd hreset hi

/-- Settles O50: `flag_stays` for each of the six flags. -/
theorem onlyStatusWriteAndResetClearStickyFlags : Obligations.OnlyStatusWriteAndResetClearStickyFlags := by
  intro i s t h hi
  have hstays (a : StickyFlag) := flag_stays a (exec_eq_next_iff.1 h) hi
  exact ⟨hstays .txDone, hstays .noise, hstays .rxOvf, hstays .drop, hstays .cmdErr, hstays .cfgErr⟩

/-- R40: counting one event lowers no counter. -/
theorem Stats.le_bump (a : Stats) (c : Counter) :
    a.rxFrames.toNat ≤ (a.bump c).rxFrames.toNat ∧ a.txFrames.toNat ≤ (a.bump c).txFrames.toNat ∧
    a.noise.toNat ≤ (a.bump c).noise.toNat ∧ a.overflow.toNat ≤ (a.bump c).overflow.toNat ∧
    a.dropped.toNat ≤ (a.bump c).dropped.toNat := by
  cases c <;> simp [Stats.bump, le_saturatingSucc]

/-- Settles O51: an instruction keeps the counters or counts one event, unless it clears them. -/
theorem countersAreMonotone : Obligations.CountersAreMonotone := by
  intro i s t h hreset hclr
  rcases stats_of_rule (exec_eq_next_iff.1 h) with hsame | ⟨c, hbump⟩ | hi | hi
  · simp [hsame]
  · rw [hbump]
    exact Stats.le_bump s.stats c
  · exact absurd hi hclr
  · exact absurd hi hreset

end Sys2Proof.Machine
end

section
/-! The session, the send buffer and `crc` over every instruction (spec/60_exceptions.md R315; spec/43_transmit.md R231,
R236; spec/40_crc.md R150). -/

namespace Sys2Proof.Machine

/-- Settles O53: of the four ways of `state_of_rule`, only START leaves Off and only TX_START enters Emission. -/
theorem onlyStartLeavesOffAndOnlyTxStartEntersEmission :
    Obligations.OnlyStartLeavesOffAndOnlyTxStartEntersEmission := by
  constructor
  · intro i s t hoff h hleft
    rcases state_of_rule (exec_eq_next_iff.1 h) with hsame | ⟨hi, -, hinit, ht⟩ | ⟨-, hwait, -, -⟩ | ⟨-, hto | hfrom⟩
    · exact absurd (hsame.trans hoff) hleft
    · exact ⟨hi, hinit, ht⟩
    · exact nomatch hoff.symm.trans hwait
    · exact absurd hto hleft
    · exact absurd hoff hfrom
  · intro i s t hout h hin
    rcases state_of_rule (exec_eq_next_iff.1 h) with hsame | ⟨-, -, hinit, -⟩ | ⟨hn, hwait, hready, -⟩ | ⟨hne, -⟩
    · exact absurd (hsame.symm.trans hin) hout
    · exact nomatch hinit.symm.trans hin
    · exact ⟨hn, hwait, hready⟩
    · exact absurd hin hne

/-- Settles O59: `response_of_rule`, and the byte on the line is `txOut_of_rule`'s. -/
theorem emissionKeepsTheResponseAndEmitsOnlyAtTheCursor :
    Obligations.EmissionKeepsTheResponseAndEmitsOnlyAtTheCursor := by
  intro i s t h
  have hrule := exec_eq_next_iff.1 h
  refine ⟨fun hs hstop hreset => ?_, fun b => ?_, fun hs hstop hreset hnone => ?_⟩
  · obtain ⟨htx, hlen, -⟩ := response_of_rule hs hstop hreset hrule
    exact ⟨htx, hlen⟩
  · rcases txOut_of_rule hrule with ⟨hnot, hout⟩ | ⟨⟨hi, hs, htxie, hcur⟩, hout⟩
    · rw [hout]
      exact ⟨nofun, fun ⟨hi, hs, htxie, hcur, _⟩ => absurd ⟨hi, hs, htxie, hcur⟩ hnot⟩
    · simp [hout, hi, hs, htxie, hcur, eq_comm]
  · obtain ⟨-, -, hcur⟩ := response_of_rule hs hstop hreset hrule
    exact hcur (by simpa using hnone)

end Sys2Proof.Machine
end

section
/-! A step by what the oldest pending word is (spec/00_scope.md R10, spec/30_encoding.md R111), and the inputs it
takes. -/

namespace Sys2Proof.Machine

variable {s t : State}

/-- What a step that answers a next state has run. -/
theorem step_cases (h : step s = .next t) :
    (s.stimuli = [] ∧ t = { s with bus := .noAccess, txOut := none }) ∨
    ∃ w rest, s.stimuli = w :: rest ∧
      ((∃ i, decode w = .instr i ∧ Rule { s with stimuli := rest } i t) ∨
       (∃ write, decode w = .busError write ∧
        t = { s with stimuli := rest, bus := if write then .writeError else .readError, txOut := none }) ∨
       (decode w = .illegalCommand ∧
        t = { s with
          stimuli := rest, flags := { s.flags with cmdErr := true }, bus := .writeOk, txOut := none })) := by
  cases hs : s.stimuli with
  | nil =>
    rw [step, fetch_nil hs] at h
    exact .inl ⟨rfl, hs ▸ waitForInput_next h⟩
  | cons w rest =>
    refine .inr ⟨w, rest, rfl, ?_⟩
    cases hd : decode w with
    | instr i =>
      rw [step_of_stimuli hs hd] at h
      exact .inl ⟨i, rfl, exec_eq_next_iff.1 h⟩
    | busError write =>
      rw [step_of_stimuli hs hd] at h
      exact .inr (.inl ⟨write, rfl, busError_next h⟩)
    | illegalCommand =>
      rw [step_of_stimuli hs hd] at h
      exact .inr (.inr ⟨rfl, rejectWrite_next h⟩)
    | refused e =>
      rw [step_of_stimuli hs hd] at h
      cases h

/-- Settles O8: the step at a word of an instruction runs the instruction. -/
theorem stepRunsTheDecodedInstruction : Obligations.StepRunsTheDecodedInstruction := by
  intro s w rest i hs hd
  exact step_of_stimuli hs hd

/-- Settles O9: with nothing to fetch the step waits. -/
theorem stepWithNoInputWaits : Obligations.StepWithNoInputWaits := by
  intro s hs
  rw [step, fetch_nil hs]
  rfl

/-- Settles O54: every instruction runs a rule and no rule touches the inputs to come; the step takes the oldest word
off before it runs anything. -/
theorem everyInstructionCompletesAndEveryStepTakesOneInput :
    Obligations.EveryInstructionCompletesAndEveryStepTakesOneInput := by
  constructor
  · intro i s
    obtain ⟨t, ht⟩ := exists_rule s i
    exact ⟨t, exec_of_rule ht, stimuli_of_rule ht⟩
  · intro s t h
    rcases step_cases h with ⟨hs, rfl⟩ | ⟨w, rest, hs, ⟨i, -, hrule⟩ | ⟨write, -, rfl⟩ | ⟨-, rfl⟩⟩
    · simp [hs]
    · rw [stimuli_of_rule hrule, hs]
      rfl
    · simp [hs]
    · simp [hs]

end Sys2Proof.Machine
end

section
/-! Runs that differ in `crc` only (spec/40_crc.md R150): each rule runs in both, with the same guard. -/

namespace Sys2Proof.Machine

variable {s t : State} {i : Instr} (c : Half)

theorem tickTmr15_withCrc : { s with crc := c }.tickTmr15 = { s.tickTmr15 with crc := c } := by
  unfold State.tickTmr15 State.expireTmr15
  cases s.state <;> split_ifs <;> rfl

theorem tickTmr35_withCrc : { s with crc := c }.tickTmr35 = { s.tickTmr35 with crc := c } := by
  unfold State.tickTmr35 State.expireTmr35
  cases s.state <;> split_ifs <;> rfl

theorem crcResult_withCrc {d : Half} (h : CrcResult s i d) : ∃ d', CrcResult { s with crc := c } i d' := by
  cases h with
  | value v => exact ⟨_, .value v⟩
  | data v => exact ⟨_, .data v⟩
  | init => exact ⟨_, .init⟩
  | rx h => exact ⟨_, .rx h⟩
  | tx h => exact ⟨_, .tx h⟩

/-- A read of any register but `CRC_VALUE` does not see `crc`. -/
theorem readReg_withCrc {r : Reg} (h : r ≠ .crcValue) : { s with crc := c }.readReg r = s.readReg r := by
  cases r with
  | crcValue => exact absurd rfl h
  | _ => rfl

/-- R150: with another `crc` the same rule runs; only `crc` and the data of a CRC_VALUE read can differ after it. -/
theorem rule_withCrc (h : Rule s i t) :
    ∃ (d : Half) (b : BusResponse), Rule { s with crc := c } i { t with crc := d, bus := b } ∧
      (i ≠ .rdCrcValue → b = t.bus) := by
  cases h with
  | read r =>
    refine ⟨c, _, .read r, fun hi => ?_⟩
    rw [readReg_withCrc c (by rintro rfl; exact hi rfl)]
  | crcUnit hc =>
    obtain ⟨d, hd⟩ := crcResult_withCrc c hc
    exact ⟨d, _, .crcUnit hd, fun _ => rfl⟩
  | tick =>
    refine ⟨c, .noAccess, ?_, fun _ => rfl⟩
    have htick := Rule.tick (s := { s with crc := c })
    rwa [tickTmr15_withCrc, tickTmr35_withCrc] at htick
  | reset => exact ⟨_, _, .reset, fun _ => rfl⟩
  | reject h => exact ⟨c, _, .reject h, fun _ => rfl⟩
  | nop => exact ⟨c, _, .nop, fun _ => rfl⟩
  | clrStats => exact ⟨c, _, .clrStats, fun _ => rfl⟩
  | wrStatus v => exact ⟨c, _, .wrStatus v, fun _ => rfl⟩
  | wrIrqEn v => exact ⟨c, _, .wrIrqEn v, fun _ => rfl⟩
  | wrT15 v h => exact ⟨c, _, .wrT15 v h, fun _ => rfl⟩
  | wrT35 v h => exact ⟨c, _, .wrT35 v h, fun _ => rfl⟩
  | wrTxbuf k v h => exact ⟨c, _, .wrTxbuf k v h, fun _ => rfl⟩
  | startIllegal h ht => exact ⟨c, _, .startIllegal h ht, fun _ => rfl⟩
  | start h ht => exact ⟨c, _, .start h ht, fun _ => rfl⟩
  | stopInOff h => exact ⟨c, _, .stopInOff h, fun _ => rfl⟩
  | stop h => exact ⟨c, _, .stop h, fun _ => rfl⟩
  | release h => exact ⟨c, _, .release h, fun _ => rfl⟩
  | txStart h => exact ⟨c, _, .txStart h, fun _ => rfl⟩
  | byteLost b h => exact ⟨c, _, .byteLost b h, fun _ => rfl⟩
  | byteInInit b h => exact ⟨c, _, .byteInInit b h, fun _ => rfl⟩
  | firstByte b h => exact ⟨c, _, .firstByte b h, fun _ => rfl⟩
  | nextByte b h hlen => exact ⟨c, _, .nextByte b h hlen, fun _ => rfl⟩
  | overflow b h hlen => exact ⟨c, _, .overflow b h hlen, fun _ => rfl⟩
  | noise b h hr => exact ⟨c, _, .noise b h hr, fun _ => rfl⟩
  | drop b h hr => exact ⟨c, _, .drop b h hr, fun _ => rfl⟩
  | emit h hcur => exact ⟨c, _, .emit h hcur, fun _ => rfl⟩
  | drained h hcur => exact ⟨c, _, .drained h hcur, fun _ => rfl⟩
  | notSending h => exact ⟨c, _, .notSending h, fun _ => rfl⟩

/-- Settles O29: `crc_of_rule`, and the next state from the other `crc` is `rule_withCrc`'s. -/
theorem framingDoesNotDependOnTheCrcUnit : Obligations.FramingDoesNotDependOnTheCrcUnit := by
  constructor
  · intro i s t hi h
    exact crc_of_rule hi (exec_eq_next_iff.1 h)
  · intro i s t u c ht hu
    obtain ⟨d, b, hrule, hbus⟩ := rule_withCrc c (exec_eq_next_iff.1 ht)
    have hut : u = { t with crc := d, bus := b } := by
      injection hu.symm.trans (exec_of_rule hrule)
    subst hut
    exact ⟨rfl, hbus⟩

end Sys2Proof.Machine
end

section
/-! The interrupt and `rx_enable` (spec/60_exceptions.md R304, spec/10_state.md R25, R26, R31). -/

namespace Sys2Proof.Machine

/-- R25: the implemented bits of the mask are 3 and 8 to 13. -/
theorem irqMask_getLsbD (k : Nat) : irqMask.getLsbD k = decide (k = 3 ∨ (8 ≤ k ∧ k ≤ 13)) := by
  by_cases hk : k < 32
  · interval_cases k <;> rfl
  · rw [BitVec.getLsbD_of_ge _ _ (Nat.le_of_not_lt hk), eq_comm, decide_eq_false_iff_not]
    omega

/-- A word masked with the implemented bits is nonzero when one of those seven bits of it is 1. -/
theorem and_irqMask_ne_zero_iff (w : Word) :
    w &&& irqMask ≠ 0#32 ↔
      w.getLsbD 3 = true ∨ w.getLsbD 8 = true ∨ w.getLsbD 9 = true ∨ w.getLsbD 10 = true ∨ w.getLsbD 11 = true ∨
        w.getLsbD 12 = true ∨ w.getLsbD 13 = true := by
  constructor
  · intro hne
    by_contra hall
    push Not at hall
    refine hne (BitVec.eq_of_getLsbD_eq fun k _ => ?_)
    rw [BitVec.getLsbD_and, irqMask_getLsbD, BitVec.getLsbD_zero, Bool.and_eq_false_imp]
    intro hw
    rw [decide_eq_false_iff_not]
    rintro (rfl | ⟨hlo, hhi⟩)
    · simp [hw] at hall
    · interval_cases k <;> simp [hw] at hall
  · intro hbit hzero
    have hoff (k : Nat) (hk : irqMask.getLsbD k = true) : w.getLsbD k = false := by
      have hand := congrArg (BitVec.getLsbD · k) hzero
      simpa [hk] using hand
    rw [hoff 3 rfl, hoff 8 rfl, hoff 9 rfl, hoff 10 rfl, hoff 11 rfl, hoff 12 rfl, hoff 13 rfl] at hbit
    simp at hbit

/-- Settles O49: the masked word is nonzero when one of its seven implemented bits is, and those bits of STATUS are
RD_RDY and the sticky flags. -/
theorem irqIsTheOrOfEnabledSources : Obligations.IrqIsTheOrOfEnabledSources := by
  intro s
  obtain ⟨hrdRdy, -⟩ := status_session_bits s
  obtain ⟨htxDone, hnoise, hrxOvf, hdrop, hcmdErr, hcfgErr⟩ := status_sticky_bits s
  constructor
  · rw [Bool.eq_iff_iff, State.irq, decide_eq_true_eq, and_irqMask_ne_zero_iff]
    simp only [BitVec.getLsbD_and, hrdRdy, htxDone, hnoise, hrxOvf, hdrop, hcmdErr, hcfgErr, Bool.or_eq_true, or_assoc]
  · unfold State.rxEnable
    cases s.state <;> simp

end Sys2Proof.Machine
end

section
/-! Repeating an input (spec/20_memory.md R75). -/

namespace Sys2Proof.Machine

theorem writeOneToClear_twice (f : Flags) (v : Word) :
    (f.writeOneToClear v).writeOneToClear v = f.writeOneToClear v := by
  simp only [Flags.writeOneToClear, Bool.and_assoc, Bool.and_self]

/-- Writing the same byte to the same index again leaves the buffer as it is. -/
theorem Memory.write_twice {m : Memory} (h : m.wf = true) {a : Nat} (ha : a < 256) (b : Byte) :
    (m.write a b).write a b = m.write a b := by
  have hw := Memory.wf_write b h ha
  refine Memory.ext_of_wf (Memory.wf_write b hw ha) hw fun j => ?_
  rw [Memory.read_write hw]
  split_ifs with hj
  · rw [hj, Memory.read_write_same h]
  · rfl

/-- A rejected input is rejected again: it has changed no element that its guard reads. -/
theorem exec_again_of_rejected {s t : State} {i : Instr} (hrej : Rejected s i) (h : exec i s = .next t) :
    exec i t = .next t := by
  rw [exec_of_rejected hrej] at h
  cases rejectWrite_next h
  rw [exec_of_rejected (by cases i <;> exact hrej)]
  rfl

/-- R75: a plain write that its rule accepts stores the same again. -/
theorem exec_again_of_plain_write {s t : State} {i : Instr} (hwf : s.tx.wf = true) (hi : isIdempotentWrite i = true)
    (h : Rule s i t) : exec i t = .next t := by
  cases h with
  | reject hrej => exact exec_again_of_rejected hrej (exec_of_rejected hrej)
  | wrStatus v =>
    have hagain := exec_of_rule (.wrStatus (s := { s with
      flags := s.flags.writeOneToClear v, bus := .writeOk, txOut := none }) v)
    rwa [writeOneToClear_twice] at hagain
  | wrIrqEn v => exact exec_of_rule (.wrIrqEn v)
  | wrT15 v hoff => exact exec_of_rule (.wrT15 v hoff)
  | wrT35 v hoff => exact exec_of_rule (.wrT35 v hoff)
  | wrTxbuf k v hne =>
    have hagain := exec_of_rule (.wrTxbuf (s := { s with
      tx := s.tx.write k.toNat (v.extractLsb' 0 8), bus := .writeOk, txOut := none }) k v hne)
    rwa [Memory.write_twice hwf k.isLt] at hagain
  | crcUnit hc =>
    cases hc with
    | value v => exact exec_wrCrcValue _ v
    | _ => cases hi
  | read r => cases r <;> cases hi
  | _ => cases hi

/-- Settles O15: a read changes the outputs only, and a plain write stores the same again. START is rejected the second
time, and feeding the CRC unit goes on from the byte before. -/
theorem readsAndPlainWritesAreIdempotent : Obligations.ReadsAndPlainWritesAreIdempotent := by
  refine ⟨fun i s t hi h => ?_, fun i s t hwf hi h => exec_again_of_plain_write hwf hi (exec_eq_next_iff.1 h), ?_, ?_⟩
  · obtain ⟨r, rfl⟩ := exists_readInstr_of_isRead hi
    rw [exec_readInstr] at h
    cases h
    exact ⟨rfl, exec_readInstr _ r⟩
  · exact ⟨{ State.reset with t15 := 1#16, t35 := 2#16 }, _, _, rfl, rfl,
      fun hsame => absurd (congrArg State.flags hsame) (by decide)⟩
  · have hfirst : crcStep State.reset.crc (dataByte 0xFF#32) = 0x00FF#16 := by decide
    have hsecond : crcStep 0x00FF#16 (dataByte 0xFF#32) = 0x0000#16 := by decide
    refine ⟨State.reset, { State.reset with crc := 0x00FF#16, bus := .writeOk },
      { State.reset with crc := 0x0000#16, bus := .writeOk }, 0xFF#32, ?_, ?_,
      fun hsame => absurd (congrArg State.crc hsame) (by decide)⟩
    · rw [exec_wrCrcData, hfirst]
      rfl
    · rw [exec_wrCrcData, hsecond]
      rfl

end Sys2Proof.Machine
end

section
/-! A TICK by what the timers hold (spec/41_timers.md R172, R173; spec/42_receive.md R199). -/

namespace Sys2Proof.Machine

variable {s : State}

theorem tickTmr15_of_two_le (he : s.tmr15.enabled = true) (h : 2 ≤ s.tmr15.count.toNat) :
    s.tickTmr15 = { s with tmr15 := ⟨true, s.tmr15.count - 1#16⟩ } := by
  simp [State.tickTmr15, Timer.expires_of_two_le h, Timer.counted_of_two_le he h]

theorem tickTmr35_of_disabled (h : s.tmr35.enabled = false) : s.tickTmr35 = s := by
  simp [State.tickTmr35, Timer.expires_of_disabled h, Timer.counted_of_disabled h]

/-- A part of a TICK in which `tmr15` does not reach 0. -/
theorem tickTmr15_of_not_one (h : s.tmr15.enabled = true → 2 ≤ s.tmr15.count.toNat) :
    s.tickTmr15 = { s with
      tmr15 := if s.tmr15.enabled then ⟨true, s.tmr15.count - 1#16⟩ else s.tmr15 } := by
  cases he : s.tmr15.enabled with
  | true => exact tickTmr15_of_two_le he (h he)
  | false => exact tickTmr15_of_disabled he

theorem tickTmr35_of_not_one (h : s.tmr35.enabled = true → 2 ≤ s.tmr35.count.toNat) :
    s.tickTmr35 = { s with
      tmr35 := if s.tmr35.enabled then ⟨true, s.tmr35.count - 1#16⟩ else s.tmr35 } := by
  cases he : s.tmr35.enabled with
  | true => exact tickTmr35_of_two_le he (h he)
  | false => exact tickTmr35_of_disabled he

/-- R199: outside Reception `tmr15` has no transition. -/
theorem expireTmr15_of_ne_reception (h : s.state ≠ .reception) : s.expireTmr15 = s := by
  unfold State.expireTmr15
  split
  · exact absurd ‹_› h
  all_goals rfl

/-- R199: in Off, Idle and Reception `tmr35` has no transition. -/
theorem expireTmr35_of_no_transition (h : s.state = .off ∨ s.state = .idle ∨ s.state = .reception) :
    s.expireTmr35 = s := by
  rcases h with h | h | h <;> rw [State.expireTmr35, h]

/-- Settles O41: neither part of the TICK reaches 0. -/
theorem tickCountsTheEnabledTimersDown : Obligations.TickCountsTheEnabledTimersDown := by
  refine ⟨by decide, fun s h15 h35 => ?_⟩
  exact exec_tick_of_ticks (tickTmr15_of_not_one h15) (tickTmr35_of_not_one h35)

/-- Settles O47: in Reception `tmr15`'s expiry is the state that `tmr35`'s expiry finds; the other expiries have no
transition. -/
theorem expiryOrderAndExpiriesWithoutTransition : Obligations.ExpiryOrderAndExpiriesWithoutTransition := by
  refine ⟨fun s hrec habandon h15 h35 => ?_, fun s hne h15 h35 => ?_, fun s hs h15 h35 => ?_⟩
  · have hwait : s.tickTmr15 = { s with tmr15 := ⟨false, 0#16⟩, state := .wait } :=
      (tickTmr15_of_one h15).trans (expireTmr15_of_reception hrec)
    have hdone := (tickTmr35_of_one (s := { s with tmr15 := ⟨false, 0#16⟩, state := .wait }) h35).trans
      (expireTmr35_of_frame rfl habandon)
    exact ⟨_, exec_tick_of_ticks hwait hdone, rfl, rfl, rfl, rfl⟩
  · exact exec_tick_of_ticks ((tickTmr15_of_one h15).trans (expireTmr15_of_ne_reception hne))
      (tickTmr35_of_disabled h35)
  · exact exec_tick_of_tmr35_one h15 h35 (expireTmr35_of_no_transition hs)

end Sys2Proof.Machine
end

section
/-! The invariant's parts (spec/10_state.md R35, R43): each row of R43 by its session, and what the rows give about the
timers. -/

namespace Sys2Proof.Machine

variable {s : State}

/-! ### The rows of R43 -/

theorem phaseInv_off (h : s.state = .off) :
    s.PhaseInv ↔ s.rxLen = 0 ∧ s.tmr15.enabled = false ∧ s.tmr35.enabled = false ∧ s.rdRdy = false ∧
      s.txie = false ∧ s.abandon = false ∧ s.crcOk = false := by
  rw [State.PhaseInv, h]

theorem phaseInv_init (h : s.state = .init) :
    s.PhaseInv ↔ s.rxLen = 0 ∧ s.tmr15.enabled = false ∧ s.tmr35.enabled = true ∧ s.rdRdy = false ∧
      s.txie = false ∧ s.abandon = false := by
  rw [State.PhaseInv, h]

theorem phaseInv_idle (h : s.state = .idle) :
    s.PhaseInv ↔ s.rxLen = 0 ∧ s.tmr15.enabled = false ∧ s.tmr35.enabled = false ∧ s.rdRdy = false ∧
      s.txie = false ∧ s.abandon = false := by
  rw [State.PhaseInv, h]

theorem phaseInv_reception (h : s.state = .reception) :
    s.PhaseInv ↔ 1 ≤ s.rxLen.val ∧ s.tmr15.enabled = true ∧ s.tmr35.enabled = true ∧
      s.tmr35.count.toNat + s.t15.toNat = s.tmr15.count.toNat + s.t35.toNat ∧
      s.rdRdy = false ∧ s.txie = false ∧ s.abandon = false := by
  rw [State.PhaseInv, h]

theorem phaseInv_wait (h : s.state = .wait) :
    s.PhaseInv ↔ s.tmr15.enabled = false ∧ s.txie = false ∧
      (s.rdRdy = true → 1 ≤ s.rxLen.val ∧ s.tmr35.enabled = false ∧ s.abandon = false) ∧
      (s.abandon = true → s.rxLen = 0 ∧ s.tmr35.enabled = true ∧ s.rdRdy = false) ∧
      (s.rdRdy = false → s.abandon = false → 1 ≤ s.rxLen.val ∧ s.tmr35.enabled = true) := by
  rw [State.PhaseInv, h]

theorem phaseInv_emission (h : s.state = .emission) :
    s.PhaseInv ↔ s.rxLen = 0 ∧ s.tmr15.enabled = false ∧ s.rdRdy = false ∧ s.abandon = false ∧
      (s.txie = true → s.tmr35.enabled = false) ∧
      (s.txie = false → s.tmr35.enabled = true ∧ s.txCur = s.txLen) := by
  rw [State.PhaseInv, h]

/-! ### Timers -/

/-- A stopped timer keeps R35 whatever its timeout becomes. -/
theorem Timer.Inv.of_disabled {t : Timer} {a : Half} (h : t.Inv a) (hd : t.enabled = false) (b : Half) : t.Inv b :=
  ⟨fun he => Bool.noConfusion (hd.symm.trans he), h.2⟩

/-- R35: a running timer is at its last count, or has at least two left. -/
theorem Timer.Inv.one_or_two_le {t : Timer} {a : Half} (h : t.Inv a) (he : t.enabled = true) :
    t = ⟨true, 1#16⟩ ∨ 2 ≤ t.count.toNat := by
  obtain ⟨hlo, -⟩ := h.1 he
  rcases Nat.lt_or_eq_of_le hlo with htwo | hone
  · exact .inr htwo
  · obtain ⟨e, c⟩ := t
    cases he
    exact .inl (congrArg _ (BitVec.eq_of_toNat_eq hone.symm))

theorem Timer.Inv.sub_one {t : Timer} {a : Half} (h : t.Inv a) (he : t.enabled = true) (h2 : 2 ≤ t.count.toNat) :
    Timer.Inv ⟨true, t.count - 1#16⟩ a :=
  Timer.counted_of_two_le he h2 ▸ Timer.inv_counted h

variable (h : s.Inv)
include h

/-- R43: `tmr15` runs in Reception only. -/
theorem State.Inv.tmr15_disabled (hne : s.state ≠ .reception) : s.tmr15.enabled = false := by
  have hp := h.phase
  cases hs : s.state with
  | off =>
    obtain ⟨-, h15, -⟩ := (phaseInv_off hs).1 hp
    exact h15
  | init =>
    obtain ⟨-, h15, -⟩ := (phaseInv_init hs).1 hp
    exact h15
  | idle =>
    obtain ⟨-, h15, -⟩ := (phaseInv_idle hs).1 hp
    exact h15
  | reception => exact absurd hs hne
  | wait =>
    obtain ⟨h15, -⟩ := (phaseInv_wait hs).1 hp
    exact h15
  | emission =>
    obtain ⟨-, h15, -⟩ := (phaseInv_emission hs).1 hp
    exact h15

/-- R7, R171: a timer that a session starts keeps R35. -/
theorem State.Inv.started (hs : s.state ≠ .off) :
    Timer.Inv ⟨true, s.t15⟩ s.t15 ∧ Timer.Inv ⟨true, s.t35⟩ s.t35 := by
  obtain ⟨hlo, hhi⟩ := h.timeoutsLegal hs
  exact ⟨Timer.inv_started hlo, Timer.inv_started (by omega)⟩

/-- The invariant does not speak of the flags, the counters, `crc`, the outputs or the inputs to come. -/
theorem State.Inv.with_outputs (f : Flags) (n : Stats) (c : Half) (b : BusResponse) (o : Option Byte)
    (l : List StimulusWord) :
    { s with flags := f, stats := n, crc := c, bus := b, txOut := o, stimuli := l }.Inv :=
  ⟨h.rxWf, h.txWf, h.irqEnImplemented, h.tmr15Bounds, h.tmr35Bounds, h.timeoutsLegal, h.cursorInBounds,
    h.crcOkOnlyHeld, h.phase⟩

end Sys2Proof.Machine
end

section
/-! Every rule keeps the invariant (spec/10_state.md R43): one lemma for each rule that moves the session, a timer or a
buffer. The outputs and counters that a rule also writes are left to `State.Inv.with_outputs`. -/

namespace Sys2Proof.Machine

variable {s t : State}

/-- Settles O3: Off's row, stopped timers, empty buffers. -/
theorem invariantHoldsAtReset : Obligations.InvariantHoldsAtReset where
  rxWf := Memory.wf_reset_rx
  txWf := Memory.wf_reset_tx
  irqEnImplemented := BitVec.zero_and
  tmr15Bounds := Timer.inv_stopped _
  tmr35Bounds := Timer.inv_stopped _
  timeoutsLegal := fun hne => absurd rfl hne
  cursorInBounds := Nat.le_refl _
  crcOkOnlyHeld := fun _ => rfl
  phase := Iff.mpr (phaseInv_off rfl) ⟨rfl, rfl, rfl, rfl, rfl, rfl, rfl⟩

section KeepsInv

variable (h : s.Inv)
include h

/-! ### Host writes -/

theorem inv_wrIrqEn (v : Word) : { s with irqEn := v &&& 0x00003F08#32 }.Inv :=
  { h with
    irqEnImplemented := by
      show (v &&& irqMask) &&& ~~~irqMask = 0#32
      rw [BitVec.and_assoc, show irqMask &&& ~~~irqMask = 0#32 by decide, BitVec.and_zero] }

theorem inv_timeouts (hoff : s.state = .off) (a b : Half) : { s with t15 := a, t35 := b }.Inv := by
  have hrow := (phaseInv_off hoff).1 h.phase
  have ⟨_, h15, h35, _⟩ := hrow
  exact { h with
    tmr15Bounds := h.tmr15Bounds.of_disabled h15 a
    tmr35Bounds := h.tmr35Bounds.of_disabled h35 b
    timeoutsLegal := fun hne => absurd hoff hne
    phase := Iff.mpr (phaseInv_off hoff) hrow }

theorem inv_wrTxbuf (k b : Byte) : { s with tx := s.tx.write k.toNat b }.Inv :=
  { h with txWf := Memory.wf_write b h.txWf k.isLt }

/-! ### Session commands -/

theorem inv_start (ht : 1 ≤ s.t15.toNat ∧ s.t15.toNat < s.t35.toNat) :
    { s with
      state := .init, rxLen := 0, rdRdy := false, crcOk := false, abandon := false, txLen := 0, txCur := 0,
      txie := false, tmr15 := ⟨false, 0#16⟩, tmr35 := ⟨true, s.t35⟩ }.Inv :=
  { h with
    tmr15Bounds := Timer.inv_stopped _
    tmr35Bounds := Timer.inv_started (Nat.le_trans ht.1 (Nat.le_of_lt ht.2))
    timeoutsLegal := fun _ => ht
    cursorInBounds := Nat.le_refl _
    crcOkOnlyHeld := fun _ => rfl
    phase := Iff.mpr (phaseInv_init rfl) ⟨rfl, rfl, rfl, rfl, rfl, rfl⟩ }

theorem inv_stop :
    { s with
      state := .off, rxLen := 0, rdRdy := false, crcOk := false, abandon := false, txLen := 0, txCur := 0,
      txie := false, tmr15 := ⟨false, 0#16⟩, tmr35 := ⟨false, 0#16⟩ }.Inv :=
  { h with
    tmr15Bounds := Timer.inv_stopped _
    tmr35Bounds := Timer.inv_stopped _
    timeoutsLegal := fun hne => absurd rfl hne
    cursorInBounds := Nat.le_refl _
    crcOkOnlyHeld := fun _ => rfl
    phase := Iff.mpr (phaseInv_off rfl) ⟨rfl, rfl, rfl, rfl, rfl, rfl, rfl⟩ }

theorem inv_release (hwait : s.state = .wait) (hready : s.rdRdy = true) :
    { s with rdRdy := false, crcOk := false, rxLen := 0, state := .idle }.Inv := by
  obtain ⟨h15, htxie, hheld, -, -⟩ := (phaseInv_wait hwait).1 h.phase
  obtain ⟨-, h35, habandon⟩ := hheld hready
  exact { h with
    timeoutsLegal := fun _ => h.timeoutsLegal (by simp [hwait])
    crcOkOnlyHeld := fun _ => rfl
    phase := Iff.mpr (phaseInv_idle rfl) ⟨rfl, h15, h35, rfl, htxie, habandon⟩ }

theorem inv_txStart (hwait : s.state = .wait) (hready : s.rdRdy = true) (k : Len) :
    { s with
      rdRdy := false, crcOk := false, rxLen := 0, txLen := k, txCur := 0, txie := true, state := .emission }.Inv := by
  obtain ⟨h15, -, hheld, -, -⟩ := (phaseInv_wait hwait).1 h.phase
  obtain ⟨-, h35, habandon⟩ := hheld hready
  exact { h with
    timeoutsLegal := fun _ => h.timeoutsLegal (by simp [hwait])
    cursorInBounds := Nat.zero_le _
    crcOkOnlyHeld := fun _ => rfl
    phase := Iff.mpr (phaseInv_emission rfl) ⟨rfl, h15, rfl, habandon, fun _ => h35, nofun⟩ }

/-! ### Byte arrival -/

theorem inv_byteInInit (hinit : s.state = .init) : { s with tmr35 := ⟨true, s.t35⟩ }.Inv := by
  obtain ⟨hlen, h15, -, hrest⟩ := (phaseInv_init hinit).1 h.phase
  exact { h with
    tmr35Bounds := (h.started (by simp [hinit])).2
    phase := Iff.mpr (phaseInv_init hinit) ⟨hlen, h15, rfl, hrest⟩ }

theorem inv_firstByte (b : Byte) (hidle : s.state = .idle) :
    { s with
      rx := s.rx.write 0 b, rxLen := 1, tmr15 := ⟨true, s.t15⟩, tmr35 := ⟨true, s.t35⟩, state := .reception }.Inv := by
  obtain ⟨-, -, -, hrest⟩ := (phaseInv_idle hidle).1 h.phase
  have hne : s.state ≠ .off := by simp [hidle]
  exact { h with
    rxWf := Memory.wf_write b h.rxWf (by decide)
    tmr15Bounds := (h.started hne).1
    tmr35Bounds := (h.started hne).2
    timeoutsLegal := fun _ => h.timeoutsLegal hne
    phase := Iff.mpr (phaseInv_reception rfl) ⟨Nat.le_refl 1, rfl, rfl, Nat.add_comm .., hrest⟩ }

theorem inv_nextByte (b : Byte) (hrec : s.state = .reception) (hlen : s.rxLen.val < 256) :
    { s with
      rx := s.rx.write s.rxLen.val b, rxLen := Len.succ s.rxLen, tmr15 := ⟨true, s.t15⟩,
      tmr35 := ⟨true, s.t35⟩ }.Inv := by
  obtain ⟨-, -, -, -, hrest⟩ := (phaseInv_reception hrec).1 h.phase
  have hne : s.state ≠ .off := by simp [hrec]
  have hpos : 1 ≤ (Len.succ s.rxLen).val := by rw [Len.val_succ hlen]; omega
  exact { h with
    rxWf := Memory.wf_write b h.rxWf hlen
    tmr15Bounds := (h.started hne).1
    tmr35Bounds := (h.started hne).2
    phase := Iff.mpr (phaseInv_reception hrec) ⟨hpos, rfl, rfl, Nat.add_comm .., hrest⟩ }

theorem inv_overflow (hrec : s.state = .reception) :
    { s with rxLen := 0, tmr15 := ⟨false, 0#16⟩, tmr35 := ⟨false, 0#16⟩, state := .idle }.Inv := by
  obtain ⟨-, -, -, -, hrest⟩ := (phaseInv_reception hrec).1 h.phase
  exact { h with
    tmr15Bounds := Timer.inv_stopped _
    tmr35Bounds := Timer.inv_stopped _
    timeoutsLegal := fun _ => h.timeoutsLegal (by simp [hrec])
    phase := Iff.mpr (phaseInv_idle rfl) ⟨rfl, rfl, rfl, hrest⟩ }

theorem inv_noise (hwait : s.state = .wait) (hready : s.rdRdy = false) :
    { s with abandon := true, rxLen := 0, tmr35 := ⟨true, s.t35⟩ }.Inv := by
  obtain ⟨h15, htxie, -, -, -⟩ := (phaseInv_wait hwait).1 h.phase
  exact { h with
    tmr35Bounds := (h.started (by simp [hwait])).2
    phase := Iff.mpr (phaseInv_wait hwait)
      ⟨h15, htxie, fun hr => Bool.noConfusion (hready.symm.trans hr), fun _ => ⟨rfl, rfl, hready⟩, nofun⟩ }

/-! ### TX_READY -/

theorem inv_emit (hem : s.state = .emission) (htxie : s.txie = true) (hcur : s.txCur.val < s.txLen.val) :
    { s with txCur := Len.succ s.txCur }.Inv := by
  obtain ⟨hlen, h15, hready, habandon, hdrain, -⟩ := (phaseInv_emission hem).1 h.phase
  have hroom : s.txCur.val < 256 := Nat.lt_of_lt_of_le hcur (Len.val_le s.txLen)
  exact { h with
    cursorInBounds := by rw [Len.val_succ hroom]; exact hcur
    phase := Iff.mpr (phaseInv_emission hem)
      ⟨hlen, h15, hready, habandon, hdrain, fun hf => Bool.noConfusion (hf.symm.trans htxie)⟩ }

theorem inv_drained (hem : s.state = .emission) (hcur : s.txLen.val ≤ s.txCur.val) :
    { s with txie := false, tmr35 := ⟨true, s.t35⟩ }.Inv := by
  obtain ⟨hlen, h15, hready, habandon, -, -⟩ := (phaseInv_emission hem).1 h.phase
  have hend : s.txCur = s.txLen := Fin.ext (Nat.le_antisymm h.cursorInBounds hcur)
  exact { h with
    tmr35Bounds := (h.started (by simp [hem])).2
    phase := Iff.mpr (phaseInv_emission hem) ⟨hlen, h15, hready, habandon, nofun, fun _ => ⟨rfl, hend⟩⟩ }

/-! ### TICK: `tmr35` outside Reception, then both timers in Reception -/

theorem inv_count_tmr35 (hne : s.state ≠ .reception) (he : s.tmr35.enabled = true) (h2 : 2 ≤ s.tmr35.count.toNat) :
    { s with tmr35 := ⟨true, s.tmr35.count - 1#16⟩ }.Inv := by
  refine { h with tmr35Bounds := h.tmr35Bounds.sub_one he h2, phase := ?_ }
  have hp := h.phase
  unfold State.PhaseInv at *
  cases hs : s.state with
  | reception => exact absurd hs hne
  | _ => simpa only [hs, he] using hp

/-- R198: Init's silence is over. -/
theorem inv_initDone (hinit : s.state = .init) : { s with tmr35 := ⟨false, 0#16⟩, state := .idle }.Inv := by
  obtain ⟨hlen, h15, -, hrest⟩ := (phaseInv_init hinit).1 h.phase
  exact { h with
    tmr35Bounds := Timer.inv_stopped _
    timeoutsLegal := fun _ => h.timeoutsLegal (by simp [hinit])
    phase := Iff.mpr (phaseInv_idle rfl) ⟨hlen, h15, rfl, hrest⟩ }

/-- R205: an abandoned frame's silence is over. -/
theorem inv_abandonDone (hwait : s.state = .wait) (habandon : s.abandon = true) :
    { s with tmr35 := ⟨false, 0#16⟩, abandon := false, rxLen := 0, state := .idle }.Inv := by
  obtain ⟨h15, htxie, -, hnoise, -⟩ := (phaseInv_wait hwait).1 h.phase
  obtain ⟨-, -, hready⟩ := hnoise habandon
  exact { h with
    tmr35Bounds := Timer.inv_stopped _
    timeoutsLegal := fun _ => h.timeoutsLegal (by simp [hwait])
    phase := Iff.mpr (phaseInv_idle rfl) ⟨rfl, h15, rfl, hready, htxie, rfl⟩ }

/-- R206: a frame is complete and held; its last silence still ran, so no frame was held before. -/
theorem inv_frameDone (hwait : s.state = .wait) (habandon : s.abandon = false) (he : s.tmr35.enabled = true)
    (ok : Bool) : { s with tmr35 := ⟨false, 0#16⟩, rdRdy := true, crcOk := ok }.Inv := by
  obtain ⟨h15, htxie, hheld, -, hopen⟩ := (phaseInv_wait hwait).1 h.phase
  have hready : s.rdRdy = false := by
    refine Bool.eq_false_iff.2 fun hr => ?_
    obtain ⟨-, hoff, -⟩ := hheld hr
    exact Bool.noConfusion (hoff.symm.trans he)
  obtain ⟨hlen, -⟩ := hopen hready habandon
  exact { h with
    tmr35Bounds := Timer.inv_stopped _
    crcOkOnlyHeld := nofun
    phase := Iff.mpr (phaseInv_wait hwait)
      ⟨h15, htxie, fun _ => ⟨hlen, rfl, habandon⟩, fun ha => Bool.noConfusion (habandon.symm.trans ha), nofun⟩ }

/-- R234: the turnaround is over; it ran only once the response was drained. -/
theorem inv_emissionDone (hem : s.state = .emission) (he : s.tmr35.enabled = true) :
    { s with tmr35 := ⟨false, 0#16⟩, state := .idle, rxLen := 0 }.Inv := by
  obtain ⟨-, h15, hready, habandon, hdrain, -⟩ := (phaseInv_emission hem).1 h.phase
  have htxie : s.txie = false := Bool.eq_false_iff.2 fun htx => Bool.noConfusion ((hdrain htx).symm.trans he)
  exact { h with
    tmr35Bounds := Timer.inv_stopped _
    timeoutsLegal := fun _ => h.timeoutsLegal (by simp [hem])
    phase := Iff.mpr (phaseInv_idle rfl) ⟨rfl, h15, rfl, hready, htxie, habandon⟩ }

/-- R173: the last count of `tmr35` outside Reception. -/
theorem inv_expire_tmr35 (hne : s.state ≠ .reception) (hone : s.tmr35 = ⟨true, 1#16⟩)
    (hexp : { s with tmr35 := ⟨false, 0#16⟩ }.expireTmr35 = t) : t.Inv := by
  have he : s.tmr35.enabled = true := by rw [hone]
  have hp := h.phase
  cases hs : s.state with
  | off =>
    obtain ⟨-, -, hd, -⟩ := (phaseInv_off hs).1 hp
    exact Bool.noConfusion (hd.symm.trans he)
  | idle =>
    obtain ⟨-, -, hd, -⟩ := (phaseInv_idle hs).1 hp
    exact Bool.noConfusion (hd.symm.trans he)
  | init =>
    cases hexp.symm.trans (expireTmr35_of_init hs)
    have hidle := inv_initDone h hs
    exact hidle
  | reception => exact absurd hs hne
  | wait =>
    cases ha : s.abandon with
    | true =>
      cases hexp.symm.trans (expireTmr35_of_abandon hs ha)
      have hidle := inv_abandonDone h hs ha
      exact hidle
    | false =>
      cases hexp.symm.trans (expireTmr35_of_frame hs ha)
      exact (inv_frameDone h hs ha he _).with_outputs _ _ _ _ _ _
  | emission =>
    cases hexp.symm.trans (expireTmr35_of_emission hs)
    exact (inv_emissionDone h hs he).with_outputs _ _ _ _ _ _

theorem inv_tick_of_ne_reception (hne : s.state ≠ .reception) : s.tickTmr15.tickTmr35.Inv := by
  rw [tickTmr15_of_disabled (h.tmr15_disabled hne)]
  cases he : s.tmr35.enabled with
  | false => rwa [tickTmr35_of_disabled he]
  | true =>
    rcases h.tmr35Bounds.one_or_two_le he with hone | htwo
    · rw [tickTmr35_of_one hone]
      exact inv_expire_tmr35 h hne hone rfl
    · rw [tickTmr35_of_two_le he htwo]
      exact inv_count_tmr35 h hne he htwo

/-- R43's lockstep: in Reception `tmr35` is `T35 - T15` counts behind `tmr15`, so it never expires there. -/
theorem inv_tick_of_reception (hrec : s.state = .reception) : s.tickTmr15.tickTmr35.Inv := by
  obtain ⟨hlen, he15, he35, hlock, hready, htxie, habandon⟩ := (phaseInv_reception hrec).1 h.phase
  have hne : s.state ≠ .off := by simp [hrec]
  obtain ⟨-, hlt⟩ := h.timeoutsLegal hne
  obtain ⟨hlo15, -⟩ := h.tmr15Bounds.1 he15
  have h2 : 2 ≤ s.tmr35.count.toNat := by omega
  have hbounds := h.tmr35Bounds.sub_one he35 h2
  rcases h.tmr15Bounds.one_or_two_le he15 with hone | htwo
  · have hwait : s.tickTmr15 = { s with tmr15 := ⟨false, 0#16⟩, state := .wait } :=
      (tickTmr15_of_one hone).trans (expireTmr15_of_reception hrec)
    have hcount : { s with tmr15 := ⟨false, 0#16⟩, state := .wait }.tickTmr35 = { s with
        tmr15 := ⟨false, 0#16⟩, state := .wait, tmr35 := ⟨true, s.tmr35.count - 1#16⟩ } :=
      tickTmr35_of_two_le he35 h2
    rw [hwait, hcount]
    exact { h with
      tmr15Bounds := Timer.inv_stopped _
      tmr35Bounds := hbounds
      timeoutsLegal := fun _ => h.timeoutsLegal hne
      phase := Iff.mpr (phaseInv_wait rfl)
        ⟨rfl, htxie, fun hr => Bool.noConfusion (hready.symm.trans hr),
          fun ha => Bool.noConfusion (habandon.symm.trans ha), fun _ _ => ⟨hlen, rfl⟩⟩ }
  · have hcount : { s with tmr15 := ⟨true, s.tmr15.count - 1#16⟩ }.tickTmr35 = { s with
        tmr15 := ⟨true, s.tmr15.count - 1#16⟩, tmr35 := ⟨true, s.tmr35.count - 1#16⟩ } :=
      tickTmr35_of_two_le he35 h2
    rw [tickTmr15_of_two_le he15 htwo, hcount]
    have hlock' : (s.tmr35.count - 1#16).toNat + s.t15.toNat = (s.tmr15.count - 1#16).toNat + s.t35.toNat := by
      rw [Timer.toNat_sub_one (by omega), Timer.toNat_sub_one hlo15]
      omega
    exact { h with
      tmr15Bounds := h.tmr15Bounds.sub_one he15 htwo
      tmr35Bounds := hbounds
      phase := Iff.mpr (phaseInv_reception hrec) ⟨hlen, rfl, rfl, hlock', hready, htxie, habandon⟩ }

theorem inv_tick : s.tickTmr15.tickTmr35.Inv := by
  by_cases hrec : s.state = .reception
  · exact inv_tick_of_reception h hrec
  · exact inv_tick_of_ne_reception h hrec

/-! ### Every rule, and every step -/

theorem inv_of_rule {i : Instr} (hrule : Rule s i t) : t.Inv := by
  cases hrule with
  | wrIrqEn v => exact (inv_wrIrqEn h v).with_outputs _ _ _ _ _ _
  | wrT15 v hoff => exact (inv_timeouts h hoff (v.extractLsb' 0 16) s.t35).with_outputs _ _ _ _ _ _
  | wrT35 v hoff => exact (inv_timeouts h hoff s.t15 (v.extractLsb' 0 16)).with_outputs _ _ _ _ _ _
  | wrTxbuf k v _ => exact (inv_wrTxbuf h k _).with_outputs _ _ _ _ _ _
  | start _ ht => exact (inv_start h ht).with_outputs _ _ _ _ _ _
  | stop => exact (inv_stop h).with_outputs _ _ _ _ _ _
  | release hheld => exact (inv_release h hheld.1 hheld.2).with_outputs _ _ _ _ _ _
  | txStart hn =>
    obtain ⟨hwait, hready, -⟩ := hn
    exact (inv_txStart h hwait hready _).with_outputs _ _ _ _ _ _
  | byteInInit b hs => exact (inv_byteInInit h hs).with_outputs _ _ _ _ _ _
  | firstByte b hs => exact (inv_firstByte h b hs).with_outputs _ _ _ _ _ _
  | nextByte b hs hlen => exact (inv_nextByte h b hs hlen).with_outputs _ _ _ _ _ _
  | overflow b hs => exact (inv_overflow h hs).with_outputs _ _ _ _ _ _
  | noise b hs hr => exact (inv_noise h hs hr).with_outputs _ _ _ _ _ _
  | emit hs hcur => exact (inv_emit h hs.1 hs.2 hcur).with_outputs _ _ _ _ _ _
  | drained hs hcur => exact (inv_drained h hs.1 hcur).with_outputs _ _ _ _ _ _
  | tick => exact (inv_tick h).with_outputs _ _ _ _ _ _
  | reset => exact invariantHoldsAtReset.with_outputs _ _ _ _ _ _
  | _ => exact h.with_outputs _ _ _ _ _ _

end KeepsInv

/-- Settles O4: a step waits, runs a rule, or answers a word that is no instruction, which moves the outputs and a flag
only. -/
theorem everyStepKeepsTheInvariant : Obligations.EveryStepKeepsTheInvariant := by
  intro s t hinv hstep
  rcases step_cases hstep with ⟨-, rfl⟩ | ⟨w, rest, -, ⟨i, -, hrule⟩ | ⟨write, -, rfl⟩ | ⟨-, rfl⟩⟩
  · exact hinv.with_outputs _ _ _ _ _ _
  · exact inv_of_rule (hinv.with_outputs _ _ _ _ _ rest) hrule
  · exact hinv.with_outputs _ _ _ _ _ _
  · exact hinv.with_outputs _ _ _ _ _ _

end Sys2Proof.Machine
end

section
/-! A held frame (spec/42_receive.md R210, spec/20_memory.md R83). -/

namespace Sys2Proof.Machine

/-- R43: while a frame is held both timers are off, so a TICK changes nothing. -/
theorem tick_of_held {s : State} (h : s.Inv) (hwait : s.state = .wait) (hready : s.rdRdy = true) :
    s.tickTmr15.tickTmr35 = s := by
  obtain ⟨h15, -, hheld, -, -⟩ := (phaseInv_wait hwait).1 h.phase
  obtain ⟨-, h35, -⟩ := hheld hready
  rw [tickTmr15_of_disabled h15, tickTmr35_of_disabled h35]

/-- Settles O52: of the rules whose guard a held frame meets, those that end no hold leave the session, `RD_RDY` and the
frame. -/
theorem heldFrameStaysHeldAndStable : Obligations.HeldFrameStaysHeldAndStable := by
  intro i s t hinv hheld hends h
  obtain ⟨hwait, hready⟩ := held_iff.1 hheld
  cases exec_eq_next_iff.1 h with
  | start hoff | wrT15 _ hoff | wrT35 _ hoff => exact nomatch hwait.symm.trans hoff
  | stop | release | txStart | reset => cases hends
  | byteInInit _ hs | firstByte _ hs | nextByte _ hs | overflow _ hs => exact nomatch hwait.symm.trans hs
  | noise _ _ hr => exact nomatch hready.symm.trans hr
  | emit hs | drained hs => exact nomatch hwait.symm.trans hs.1
  | tick =>
    rw [tick_of_held hinv hwait hready]
    exact ⟨hheld, rfl, rfl, rfl⟩
  | _ => exact ⟨hheld, rfl, rfl, rfl⟩

end Sys2Proof.Machine
end

section
/-! The encoder against the decoder (spec/30_encoding.md section 5): the word of an event, the fields that make up any
word, and the two directions of the round trip. -/

namespace Sys2Proof

/-! ### A word by its kind (R110, R111) -/

/-- R109: the events that carry no byte. -/
def Kind.plainEvent : Kind → Option Instr
  | .tick => some .tick
  | .txReady => some .txReady
  | .reset => some .reset
  | .hostRd | .hostWr | .rxByte => none

/-- R110: the bits of a word that no kind uses. -/
def ReservedSet (w : StimulusWord) : Prop := stimReservedHigh w ≠ 0#2 ∨ stimReservedLow w ≠ 0#12

theorem not_reservedSet_iff (w : StimulusWord) :
    ¬ ReservedSet w ↔ stimReservedHigh w = 0#2 ∧ stimReservedLow w = 0#12 := by
  rw [ReservedSet, not_or, not_not, not_not]

theorem not_reservedSet_stimulus (k : Kind) (size : BitVec 2) (off : Offset) (data : Word) :
    ¬ ReservedSet (stimulus k size off data) := by
  rw [not_reservedSet_iff, stimReservedHigh_stimulus, stimReservedLow_stimulus]
  exact ⟨rfl, rfl⟩

section
variable {w : StimulusWord}

theorem decode_of_reservedSet {k : Kind} (hk : Kind.ofBits (stimKind w) = some k) (hres : ReservedSet w) :
    decode w = .refused .reservedNonzero := by
  rw [decode, hk]
  exact if_pos hres

theorem decode_of_hostRd (hk : Kind.ofBits (stimKind w) = some .hostRd) (hres : ¬ ReservedSet w) :
    decode w = if stimData w ≠ 0#32 then .refused .unusedDataNonzero else decodeRead (stimSize w) (stimOffset w) := by
  rw [decode, hk]
  exact if_neg hres

theorem decode_of_hostWr (hk : Kind.ofBits (stimKind w) = some .hostWr) (hres : ¬ ReservedSet w) :
    decode w = decodeWrite (stimSize w) (stimOffset w) (stimData w) := by
  rw [decode, hk]
  exact if_neg hres

theorem decode_of_rxByte (hk : Kind.ofBits (stimKind w) = some .rxByte) (hres : ¬ ReservedSet w) :
    decode w = decodeEvent w ((stimData w).extractLsb' 8 24 != 0#24) (.rxByte ((stimData w).extractLsb' 0 8)) := by
  rw [decode, hk]
  exact if_neg hres

theorem decode_of_plainEvent {k : Kind} {i : Instr} (hk : Kind.ofBits (stimKind w) = some k) (hres : ¬ ReservedSet w)
    (he : k.plainEvent = some i) : decode w = decodeEvent w (stimData w != 0#32) i := by
  rw [decode, hk]
  cases k <;> cases he <;> exact if_neg hres

end

/-! ### Decoding what the encoder writes -/

/-- R111: a word that a kind's event uses no field of decodes to the event. -/
theorem decodeEvent_encodeEvent (k : Kind) (data : Word) (i : Instr) :
    decodeEvent (encodeEvent k data) false i = .instr i := by
  simp [decodeEvent, eventFieldError, encodeEvent]

theorem kindOfBits_encodeEvent (k : Kind) (data : Word) : Kind.ofBits (stimKind (encodeEvent k data)) = some k := by
  rw [encodeEvent, stimKind_stimulus, Kind.ofBits_bits]

theorem decode_encodeEvent_rxByte (b : Byte) : decode (encodeEvent .rxByte (0#24 ++ b)) = .instr (.rxByte b) := by
  have hhigh : (0#24 ++ b : Word).extractLsb' 8 24 = 0#24 :=
    (extract_append_high 0#24 b 0 24).trans (extract_all 0#24)
  have hlow : (0#24 ++ b : Word).extractLsb' 0 8 = b := extract_append_low 0#24 b
  have hdecode := decode_of_rxByte (kindOfBits_encodeEvent .rxByte (0#24 ++ b)) (not_reservedSet_stimulus _ _ _ _)
  rw [hdecode, ← decodeEvent_encodeEvent .rxByte (0#24 ++ b)]
  simp [encodeEvent, hhigh, hlow]

/-- R111: the word of an event without data. -/
theorem decode_encodeEvent_plain {k : Kind} {i : Instr} (h : k.plainEvent = some i) :
    decode (encodeEvent k 0#32) = .instr i := by
  rw [decode_of_plainEvent (kindOfBits_encodeEvent k 0#32) (not_reservedSet_stimulus _ _ _ _) h,
    ← decodeEvent_encodeEvent k 0#32]
  simp [encodeEvent]

/-- R106, R265: a CMD word whose opcode and count are a legal command decodes to that command. -/
theorem decode_encodeCommand {op : Byte} {n : Nat} {i : Instr} (h : decodeCommand (commandWord op n) = some i) :
    decode (encodeCommand op n) = .instr i := by
  rw [encodeCommand, decode_encodeWrite, writeDecoded, h]

/-- Settles O5: each family's word decodes by that family's lemma; the count of a command is below 512. -/
theorem decodeOfEncodeIsTheInstruction : Obligations.DecodeOfEncodeIsTheInstruction := by
  intro i hwf
  cases i with
  | cmdTxStart n => exact decode_encodeCommand (decodeCommand_cmdTxStart (of_decide_eq_true hwf))
  | cmdCrcRx n => exact decode_encodeCommand (decodeCommand_cmdCrcRx (of_decide_eq_true hwf))
  | cmdCrcTx n => exact decode_encodeCommand (decodeCommand_cmdCrcTx (of_decide_eq_true hwf))
  | cmdNop | cmdStart | cmdStop | cmdRelease | cmdCrcInit | cmdClrStats => exact decode_encodeCommand rfl
  | wrStatus v => exact decode_encodeWrite .status v
  | wrIrqEn v => exact decode_encodeWrite .irqEn v
  | wrT15 v => exact decode_encodeWrite .t15 v
  | wrT35 v => exact decode_encodeWrite .t35 v
  | wrCrcValue v => exact decode_encodeWrite .crcValue v
  | wrCrcData v => exact decode_encodeWrite .crcData v
  | wrTxbuf k v => exact decode_encodeWrite (.txbuf k) v
  | rxByte b => exact decode_encodeEvent_rxByte b
  | tick | txReady | reset => exact decode_encodeEvent_plain rfl
  | rdRxbuf k => exact decode_encodeRead (.rxbuf k)
  | rdTxbuf k => exact decode_encodeRead (.txbuf k)
  | _ => exact decode_encodeRead _

/-! ### A word is its fields -/

/-- R110: the fields of a stimulus word, put together again. -/
theorem stimulus_eq_fields (w : StimulusWord) :
    stimKind w ++ stimReservedHigh w ++ stimSize w ++ stimReservedLow w ++ stimOffset w ++ stimData w = w := by
  have h58 : stimKind w ++ stimReservedHigh w = w.extractLsb' 58 6 :=
    BitVec.extractLsb'_append_extractLsb'_eq_extractLsb' rfl
  have h56 : w.extractLsb' 58 6 ++ stimSize w = w.extractLsb' 56 8 :=
    BitVec.extractLsb'_append_extractLsb'_eq_extractLsb' rfl
  have h44 : w.extractLsb' 56 8 ++ stimReservedLow w = w.extractLsb' 44 20 :=
    BitVec.extractLsb'_append_extractLsb'_eq_extractLsb' rfl
  have h32 : w.extractLsb' 44 20 ++ stimOffset w = w.extractLsb' 32 32 :=
    BitVec.extractLsb'_append_extractLsb'_eq_extractLsb' rfl
  have h0 : w.extractLsb' 32 32 ++ stimData w = w.extractLsb' 0 64 :=
    BitVec.extractLsb'_append_extractLsb'_eq_extractLsb' rfl
  rw [h58, h56, h44, h32, h0, extract_all]

/-- R110: the bits of a kind are its own. -/
theorem bits_of_kindOfBits {b : BitVec 4} {k : Kind} (h : Kind.ofBits b = some k) : k.bits = b := by
  unfold Kind.ofBits at h
  split at h <;> cases h <;> rfl

/-- R110, R111: a word of a valid kind with its reserved bits 0 is what the encoder writes from its other fields. -/
theorem stimulus_of_fields {w : StimulusWord} {k : Kind} (hk : Kind.ofBits (stimKind w) = some k)
    (hres : ¬ ReservedSet w) : stimulus k (stimSize w) (stimOffset w) (stimData w) = w := by
  obtain ⟨hhigh, hlow⟩ := (not_reservedSet_iff w).1 hres
  have hfields := stimulus_eq_fields w
  rwa [hhigh, hlow, ← bits_of_kindOfBits hk] at hfields

/-- R104: the fields of a CMD word, put together again. -/
theorem command_eq_fields (v : Word) :
    v.extractLsb' 25 7 ++ v.extractLsb' 16 9 ++ v.extractLsb' 8 8 ++ cmdOp v = v := by
  have h16 : v.extractLsb' 25 7 ++ v.extractLsb' 16 9 = v.extractLsb' 16 16 :=
    BitVec.extractLsb'_append_extractLsb'_eq_extractLsb' rfl
  have h8 : v.extractLsb' 16 16 ++ v.extractLsb' 8 8 = v.extractLsb' 8 24 :=
    BitVec.extractLsb'_append_extractLsb'_eq_extractLsb' rfl
  have h0 : v.extractLsb' 8 24 ++ cmdOp v = v.extractLsb' 0 32 :=
    BitVec.extractLsb'_append_extractLsb'_eq_extractLsb' rfl
  rw [h16, h8, h0, extract_all]

theorem cmdN_lt (v : Word) : cmdN v < 512 := (v.extractLsb' 16 9).isLt

/-- R104: a CMD word with its reserved bits 0 is what the encoder writes from its opcode and count. -/
theorem commandWord_of_fields {v : Word} (h : v &&& 0xFE00FF00#32 = 0#32) : commandWord (cmdOp v) (cmdN v) = v := by
  have hfields := command_eq_fields v
  have hzero (k l : Nat) : (v &&& 0xFE00FF00#32).extractLsb' k l = 0#l := by
    rw [h]
    simp
  have hhigh : v.extractLsb' 25 7 = 0#7 := by
    rw [← hzero 25 7, BitVec.extractLsb'_and, show (0xFE00FF00#32).extractLsb' 25 7 = BitVec.allOnes 7 by decide,
      BitVec.and_allOnes]
  have hmid : v.extractLsb' 8 8 = 0#8 := by
    rw [← hzero 8 8, BitVec.extractLsb'_and, show (0xFE00FF00#32).extractLsb' 8 8 = BitVec.allOnes 8 by decide,
      BitVec.and_allOnes]
  have hn : BitVec.ofNat 9 (cmdN v) = v.extractLsb' 16 9 := by
    apply BitVec.eq_of_toNat_eq
    rw [BitVec.toNat_ofNat, Nat.mod_eq_of_lt (cmdN_lt v), cmdN]
  rwa [hhigh, hmid, ← hn] at hfields

/-! ### Encoding what the decoder reads -/

theorem encode_readInstr (r : Reg) : encode (readInstr r) = encodeRead r := by cases r <;> rfl

/-- R106: a plain command is read from a word of its opcode without a count. -/
theorem plainCommand_eq_some {n : Nat} {i j : Instr} (h : plainCommand n i = some j) : n = 0 ∧ j = i := by
  unfold plainCommand at h
  split_ifs at h with hn
  exact ⟨hn, (Option.some.inj h).symm⟩

/-- R104 to R107: the command read from a CMD word is well-formed, and the encoder writes that word for it. -/
theorem encode_of_decodeCommand {v : Word} {i : Instr} (h : decodeCommand v = some i) :
    i.wellFormed = true ∧ encode i = encodeWrite .cmd v := by
  have hn := cmdN_lt v
  unfold decodeCommand at h
  split_ifs at h with hres
  have hv := commandWord_of_fields (not_not.1 hres)
  split at h
  all_goals rename_i hop
  case h_5 | h_7 | h_8 =>
    cases h
    rw [hop] at hv
    exact ⟨decide_eq_true hn, congrArg (encodeWrite .cmd) hv⟩
  case h_10 => cases h
  all_goals
    obtain ⟨hzero, rfl⟩ := plainCommand_eq_some h
    rw [hop, hzero] at hv
    exact ⟨rfl, congrArg (encodeWrite .cmd) hv⟩

/-- R262, R264 to R268: a write that decodes to an instruction is what the encoder writes for it. -/
theorem encode_of_writeDecoded {v : Word} {r : Reg} {i : Instr} (h : writeDecoded v r = .instr i) :
    i.wellFormed = true ∧ encode i = encodeWrite r v := by
  cases r with
  | cmd =>
    unfold writeDecoded at h
    cases hc : decodeCommand v with
    | none => simp [hc] at h
    | some j =>
      simp only [hc, Decoded.instr.injEq] at h
      subst h
      exact encode_of_decodeCommand hc
  | status | irqEn | t15 | t35 | crcValue | crcData | txbuf =>
    cases h
    exact ⟨rfl, rfl⟩
  | _ => cases h

theorem size_of_legalReg {size : BitVec 2} {off : Offset} {r : Reg} (h : legalReg size off = some r) : size = 2#2 := by
  unfold legalReg at h
  split_ifs at h with hsize
  exact hsize

/-- R261: a read that decodes to an instruction is the read of a register. -/
theorem encode_of_decodeRead {size : BitVec 2} {off : Offset} {i : Instr} (h : decodeRead size off = .instr i) :
    i.wellFormed = true ∧ encode i = stimulus .hostRd size off 0#32 := by
  unfold decodeRead at h
  cases hr : legalReg size off with
  | none => simp [hr] at h
  | some r =>
    simp only [hr, Decoded.instr.injEq] at h
    subst h
    refine ⟨by cases r <;> rfl, ?_⟩
    rw [encode_readInstr, encodeRead, offset_of_legalReg hr, size_of_legalReg hr]

theorem encode_of_decodeWrite {size : BitVec 2} {off : Offset} {v : Word} {i : Instr}
    (h : decodeWrite size off v = .instr i) : i.wellFormed = true ∧ encode i = stimulus .hostWr size off v := by
  unfold decodeWrite at h
  cases hr : legalReg size off with
  | none => simp [hr] at h
  | some r =>
    simp only [hr] at h
    obtain ⟨hwf, henc⟩ := encode_of_writeDecoded h
    rw [henc, encodeWrite, offset_of_legalReg hr, size_of_legalReg hr]
    exact ⟨hwf, rfl⟩

/-- R110, R111: an event that decodes has every field it does not use 0. -/
theorem decodeEvent_eq_instr_iff {w : StimulusWord} {unused : Bool} {i j : Instr} :
    decodeEvent w unused i = .instr j ↔ stimSize w = 0#2 ∧ stimOffset w = 0#12 ∧ unused = false ∧ i = j := by
  unfold decodeEvent eventFieldError
  split_ifs with hsize hoff hdata <;> simp_all

theorem event_eq_encodeEvent {w : StimulusWord} {k : Kind}
    (hw : stimulus k (stimSize w) (stimOffset w) (stimData w) = w) (hsize : stimSize w = 0#2)
    (hoff : stimOffset w = 0#12) {data : Word} (hdata : stimData w = data) : encodeEvent k data = w := by
  rw [encodeEvent, ← hw, hsize, hoff, hdata]

theorem encode_of_plainEvent {k : Kind} {i : Instr} (h : k.plainEvent = some i) :
    i.wellFormed = true ∧ encode i = encodeEvent k 0#32 := by
  cases k <;> cases h <;> exact ⟨rfl, rfl⟩

/-- R109: the data of an RX_BYTE with its upper part 0 is its byte. -/
theorem data_of_byte {v : Word} (h : v.extractLsb' 8 24 = 0#24) : 0#24 ++ v.extractLsb' 0 8 = v := by
  have hall : v.extractLsb' 8 24 ++ v.extractLsb' 0 8 = v.extractLsb' 0 32 :=
    BitVec.extractLsb'_append_extractLsb'_eq_extractLsb' rfl
  rw [← h, hall, extract_all]

/-- R110: every valid kind is an access, a byte or a plain event. -/
theorem Kind.cases_plainEvent (k : Kind) : k = .hostRd ∨ k = .hostWr ∨ k = .rxByte ∨ ∃ i, k.plainEvent = some i := by
  cases k <;> simp [Kind.plainEvent]

/-- Settles O6: by the word's kind; a host access is its register's word, an event has every other field 0. -/
theorem encodeOfDecodeIsTheWord : Obligations.EncodeOfDecodeIsTheWord := by
  intro w i h
  cases hk : Kind.ofBits (stimKind w) with
  | none => simp [decode, hk] at h
  | some k =>
    by_cases hres : ReservedSet w
    · rw [decode_of_reservedSet hk hres] at h
      cases h
    have hw := stimulus_of_fields hk hres
    rcases k.cases_plainEvent with rfl | rfl | rfl | ⟨j, hj⟩
    · rw [decode_of_hostRd hk hres] at h
      split_ifs at h with hdata
      obtain ⟨hwf, henc⟩ := encode_of_decodeRead h
      rw [not_not.1 hdata] at hw
      exact ⟨hwf, henc.trans hw⟩
    · rw [decode_of_hostWr hk hres] at h
      obtain ⟨hwf, henc⟩ := encode_of_decodeWrite h
      exact ⟨hwf, henc.trans hw⟩
    · rw [decode_of_rxByte hk hres] at h
      obtain ⟨hsize, hoff, hdata, rfl⟩ := decodeEvent_eq_instr_iff.1 h
      exact ⟨rfl, event_eq_encodeEvent hw hsize hoff (data_of_byte (bne_eq_false_iff_eq.1 hdata)).symm⟩
    · rw [decode_of_plainEvent hk hres hj] at h
      obtain ⟨hsize, hoff, hdata, rfl⟩ := decodeEvent_eq_instr_iff.1 h
      obtain ⟨hwf, henc⟩ := encode_of_plainEvent hj
      exact ⟨hwf, henc.trans (event_eq_encodeEvent hw hsize hoff (bne_eq_false_iff_eq.1 hdata))⟩

/-- Settles O7: each word by evaluation of the decoder. -/
theorem exampleWordsDecode : Obligations.ExampleWordsDecode := by
  refine ⟨?_, ?_, ?_, ?_, ?_, ?_, ?_, ?_, ?_, ?_, ?_⟩ <;> decide

/-! ### The words that are no stimulus (R111) -/

theorem kindOfBits_eq_none_iff (b : BitVec 4) : Kind.ofBits b = none ↔ b.toNat = 0 ∨ 7 ≤ b.toNat := by
  revert b
  decide

theorem decodeRead_ne_refused (size : BitVec 2) (off : Offset) (e : DecodeError) :
    decodeRead size off ≠ .refused e := by
  unfold decodeRead
  split <;> nofun

theorem decodeWrite_ne_refused (size : BitVec 2) (off : Offset) (v : Word) (e : DecodeError) :
    decodeWrite size off v ≠ .refused e := by
  unfold decodeWrite
  split
  · unfold writeDecoded
    split
    case h_3 => split <;> nofun
    all_goals nofun
  · nofun

theorem exists_decodeEvent_eq_refused_iff (w : StimulusWord) (unused : Bool) (i : Instr) :
    (∃ e, decodeEvent w unused i = .refused e) ↔ (stimSize w ≠ 0#2 ∨ stimOffset w ≠ 0#12) ∨ unused = true := by
  unfold decodeEvent eventFieldError
  split_ifs with hsize hoff hdata <;> simp_all

/-- R111 for a word of a valid kind, by what the kind leaves unused. -/
theorem exists_decode_eq_refused_iff {w : StimulusWord} {k : Kind} (hk : Kind.ofBits (stimKind w) = some k) :
    (∃ e, decode w = .refused e) ↔
      ReservedSet w ∨
      (3 ≤ k.bits.toNat ∧ (stimSize w ≠ 0#2 ∨ stimOffset w ≠ 0#12)) ∨
      (k.bits.toNat ≠ 2 ∧ k.bits.toNat ≠ 3 ∧ stimData w ≠ 0#32) ∨
      (k.bits.toNat = 3 ∧ (stimData w).extractLsb' 8 24 ≠ 0#24) := by
  by_cases hres : ReservedSet w
  · simp [decode_of_reservedSet hk hres, hres]
  cases k with
  | hostRd =>
    rw [decode_of_hostRd hk hres]
    split_ifs with hdata
    · simp [hdata, Kind.bits]
    · simp [hdata, hres, decodeRead_ne_refused, Kind.bits]
  | hostWr => simp [decode_of_hostWr hk hres, hres, decodeWrite_ne_refused, Kind.bits]
  | rxByte => simp [decode_of_rxByte hk hres, hres, exists_decodeEvent_eq_refused_iff, Kind.bits]
  | _ => simp [decode_of_plainEvent hk hres rfl, hres, exists_decodeEvent_eq_refused_iff, Kind.bits]

/-- Settles O10: without a valid kind the word is refused; with one, by the kind's unused fields. -/
theorem exactlyTheInvalidWordsAreRefused : Obligations.ExactlyTheInvalidWordsAreRefused := by
  refine ⟨fun w => ?_, fun s w rest e hs hd => Machine.step_of_stimuli hs hd⟩
  have hbyte : (stimData w).extractLsb' 8 24 = w.extractLsb' 8 24 := by
    apply BitVec.eq_of_getLsbD_eq
    intro k hk
    simp [stimData, hk]
  have hfields : (∃ e, decode w = .refused e) ↔
      (stimKind w).toNat = 0 ∨ 7 ≤ (stimKind w).toNat ∨ ReservedSet w ∨
      (3 ≤ (stimKind w).toNat ∧ (stimSize w ≠ 0#2 ∨ stimOffset w ≠ 0#12)) ∨
      ((stimKind w).toNat ≠ 2 ∧ (stimKind w).toNat ≠ 3 ∧ stimData w ≠ 0#32) ∨
      ((stimKind w).toNat = 3 ∧ (stimData w).extractLsb' 8 24 ≠ 0#24) := by
    rw [← or_assoc, ← kindOfBits_eq_none_iff]
    cases hk : Kind.ofBits (stimKind w) with
    | none => simp [decode, hk]
    | some k =>
      rw [exists_decode_eq_refused_iff hk, bits_of_kindOfBits hk]
      simp
  rw [hfields, hbyte, ReservedSet, or_assoc]
  rfl

end Sys2Proof
end

section
/-! The algebra of the CRC step (spec/40_crc.md R142, R143, R149). -/

namespace Sys2Proof.Machine

/-! ### Linearity -/

theorem crcShift_eq_xor (c : Half) : crcShift c = c >>> 1 ^^^ if c.getLsbD 0 then 0xA001#16 else 0#16 := by
  unfold crcShift
  split <;> simp

theorem crcShift_xor (c d : Half) : crcShift (c ^^^ d) = crcShift c ^^^ crcShift d := by
  have hpoly (a b : Bool) : (if a ^^ b then 0xA001#16 else 0#16) =
      (if a then 0xA001#16 else 0#16) ^^^ (if b then 0xA001#16 else 0#16) := by
    cases a <;> cases b <;> decide
  rw [crcShift_eq_xor, crcShift_eq_xor c, crcShift_eq_xor d, BitVec.ushiftRight_xor_distrib, BitVec.getLsbD_xor, hpoly]
  ac_rfl

theorem crcShifts_xor (k : Nat) (c d : Half) : crcShifts k (c ^^^ d) = crcShifts k c ^^^ crcShifts k d := by
  induction k generalizing c d with
  | zero => rfl
  | succ k ih => rw [crcShifts, crcShifts, crcShifts, crcShift_xor, ih]

/-- Settles O27: each shift is linear, and so are the eight of them and the byte's XOR. -/
theorem crcStepIsLinear : Obligations.CrcStepIsLinear := by
  intro c d a b
  have hbytes : c ^^^ d ^^^ (a ^^^ b).setWidth 16 = (c ^^^ a.setWidth 16) ^^^ (d ^^^ b.setWidth 16) := by
    rw [BitVec.setWidth_xor]
    ac_rfl
  rw [crcStep, hbytes, crcShifts_xor]
  rfl

/-! ### The residue -/

theorem crcShift_of_bit_zero {c : Half} (h : c.getLsbD 0 = false) : crcShift c = c >>> 1 := by
  rw [crcShift, h]
  rfl

/-- While the bits shifted out are 0 the loop only shifts. -/
theorem crcShifts_of_low_bits_zero (k : Nat) {c : Half} (h : ∀ j, j < k → c.getLsbD j = false) :
    crcShifts k c = c >>> k := by
  induction k generalizing c with
  | zero => simp [crcShifts]
  | succ k ih =>
    have hnext : ∀ j, j < k → (c >>> 1).getLsbD j = false := fun j hj => by
      rw [BitVec.getLsbD_ushiftRight]
      exact h (1 + j) (by omega)
    rw [crcShifts, crcShift_of_bit_zero (h 0 (Nat.succ_pos k)), ih hnext, ← BitVec.shiftRight_add, Nat.add_comm]

/-- R143: the register's own low byte cancels, and the eight shifts move its high byte down. -/
theorem crcStep_low_byte (c : Half) : crcStep c (c.extractLsb' 0 8) = (c.extractLsb' 8 8).setWidth 16 := by
  have hlow : ∀ j, j < 8 → (c ^^^ (c.extractLsb' 0 8).setWidth 16).getLsbD j = false := fun j hj => by
    simp [hj, show j < 16 by omega]
  rw [crcStep, crcShifts_of_low_bits_zero 8 hlow]
  apply BitVec.eq_of_getLsbD_eq
  intro j hj
  by_cases hj8 : j < 8 <;> simp [hj, hj8]
  exact BitVec.getLsbD_of_ge _ _ (by omega)

/-- R143: a register that holds one byte is cleared by that byte. -/
theorem crcStep_same_byte (b : Byte) : crcStep (b.setWidth 16) b = 0x0000#16 := by
  rw [crcStep, BitVec.xor_self, crcShifts_of_low_bits_zero 8 (by simp)]
  rfl

/-- Settles O26: the low byte leaves the high byte, which the high byte clears. -/
theorem feedingTheCrcLeavesNoResidue : Obligations.FeedingTheCrcLeavesNoResidue := by
  intro c
  rw [crcStep_low_byte, crcStep_same_byte]

/-! ### A sealed frame -/

/-- R143 over a buffer: `n` bytes and then their CRC, low byte first, leave 0. -/
theorem crcOfBytes_sealed {m : Memory} {n : Nat} (hlow : m.read n = (crcOfBytes (firstBytes m n)).extractLsb' 0 8)
    (hhigh : m.read (n + 1) = (crcOfBytes (firstBytes m n)).extractLsb' 8 8) :
    crcOfBytes (firstBytes m (n + 2)) = 0x0000#16 := by
  rw [firstBytes_succ, crcOfBytes_concat, firstBytes_succ, crcOfBytes_concat, hlow, hhigh]
  exact feedingTheCrcLeavesNoResidue _

/-- Settles O28: `crcOfBytes_sealed`, and the completed frame compares the CRC with its own two bytes, so `CRC_OK` is
the bound on the length. -/
theorem sealedFrameIsReceivedWithCrcOk : Obligations.SealedFrameIsReceivedWithCrcOk := by
  intro s n _ hlen hwait habandon h15 h35 hlow hhigh
  refine ⟨crcOfBytes_sealed hlow hhigh, _, longSilenceInWaitCompletesTheFrame s hwait habandon h15 h35, rfl, ?_⟩
  have hbytes : s.rx.read (n + 1) ++ s.rx.read n = crcOfBytes (firstBytes s.rx n) := by
    rw [hlow, hhigh]
    exact (BitVec.extractLsb'_append_extractLsb'_eq_extractLsb' rfl).trans (extract_all _)
  simp [hlen, hbytes]

end Sys2Proof.Machine
end

section
/-! Runs of several inputs (spec/41_timers.md R175, spec/43_transmit.md R236): how runs compose, and what a run of TICKs
leaves while no timer reaches its last count. -/

namespace Sys2Proof.Machine

variable {s t u : State} {w : StimulusWord} {rest : List StimulusWord} {a b : Nat}

/-! ### Runs -/

/-- `k` steps of the machine take `s` to `t`. -/
def Runs (k : Nat) (s t : State) : Prop := Host.Core.run core k s = .next t

theorem Runs.zero (s : State) : Runs 0 s s := rfl

theorem Runs.one (h : step s = .next t) : Runs 1 s t := by
  have hstep : core.step s = .next t := h
  simp only [Runs, Host.Core.run, hstep]

/-- A run and a run from where it ends are one run. -/
theorem Runs.add (h : Runs a s t) (h' : Runs b t u) : Runs (a + b) s u := by
  induction a generalizing s with
  | zero =>
    cases h
    rwa [Nat.zero_add]
  | succ a ih =>
    rw [Nat.succ_add]
    simp only [Runs, Host.Core.run] at h ⊢
    cases hstep : core.step s with
    | next v =>
      rw [hstep] at h
      exact ih h
    | fault r => simp [hstep] at h
    | refused r => simp [hstep] at h

/-- A step at a pending word runs the instruction that the word decodes to. -/
theorem Runs.exec {i : Instr} (hw : s.stimuli = w :: rest) (hd : decode w = .instr i)
    (hexec : Machine.exec i { s with stimuli := rest } = .next t) : Runs 1 s t :=
  Runs.one ((step_of_stimuli hw hd).trans hexec)

/-! ### TICKs -/

theorem decode_tickWord : decode 0x4000000000000000#64 = .instr .tick := tickCountsTheEnabledTimersDown.1

/-- R172: a timer after `k` TICKs in which it does not reach 0. -/
def Timer.after (t : Timer) (k : Nat) : Timer := if t.enabled then ⟨true, t.count - BitVec.ofNat 16 k⟩ else t

theorem Timer.after_of_disabled {t : Timer} (h : t.enabled = false) (k : Nat) : t.after k = t := by
  simp [Timer.after, h]

theorem Timer.after_running (c : Half) (k : Nat) : Timer.after ⟨true, c⟩ k = ⟨true, c - BitVec.ofNat 16 k⟩ := rfl

theorem Timer.after_zero (t : Timer) : t.after 0 = t := by
  obtain ⟨e, c⟩ := t
  cases e <;> simp [Timer.after]

theorem toNat_sub_ofNat {c : Half} {k : Nat} (h : k ≤ c.toNat) : (c - BitVec.ofNat 16 k).toNat = c.toNat - k := by
  have hlt := c.isLt
  rw [BitVec.toNat_sub, BitVec.toNat_ofNat]
  omega

/-- The timer that one TICK leaves reaches 0 one TICK earlier. -/
theorem Timer.lt_count_after_one {t : Timer} {k : Nat} (h : t.enabled = true → k + 1 < t.count.toNat)
    (he : (t.after 1).enabled = true) : k < (t.after 1).count.toNat := by
  obtain ⟨e, c⟩ := t
  cases e with
  | false => cases he
  | true =>
    have hlt := h rfl
    rw [Timer.after_running]
    simp only at hlt ⊢
    rw [toNat_sub_ofNat (by omega)]
    omega

theorem Timer.after_after (t : Timer) (k l : Nat) : (t.after k).after l = t.after (k + l) := by
  obtain ⟨e, c⟩ := t
  cases e with
  | false => rfl
  | true => rw [Timer.after_running, Timer.after_running, Timer.after_running, BitVec.ofNat_add, BitVec.sub_sub]

/-- R172: one TICK in which no timer reaches 0. -/
theorem exec_tick_after_one (h15 : s.tmr15.enabled = true → 2 ≤ s.tmr15.count.toNat)
    (h35 : s.tmr35.enabled = true → 2 ≤ s.tmr35.count.toNat) :
    exec .tick s = .next { s with
      tmr15 := s.tmr15.after 1, tmr35 := s.tmr35.after 1, bus := .noAccess, txOut := none } :=
  tickCountsTheEnabledTimersDown.2 s h15 h35

/-- R172, R174: a run of TICKs in which no timer reaches 0 counts the enabled timers and changes no other element. If no
byte is on the line before it, none is after it. -/
theorem runs_ticks (k : Nat) (hs : s.stimuli = List.replicate k 0x4000000000000000#64 ++ rest)
    (h15 : s.tmr15.enabled = true → k < s.tmr15.count.toNat) (h35 : s.tmr35.enabled = true → k < s.tmr35.count.toNat) :
    ∃ (r : BusResponse) (o : Option Byte), (s.txOut = none → o = none) ∧
      Runs k s { s with
        tmr15 := s.tmr15.after k, tmr35 := s.tmr35.after k, bus := r, txOut := o, stimuli := rest } := by
  induction k generalizing s with
  | zero =>
    refine ⟨s.bus, s.txOut, id, ?_⟩
    obtain rfl : s.stimuli = rest := hs
    rw [Timer.after_zero, Timer.after_zero]
    exact Runs.zero s
  | succ k ih =>
    have hfirst := Runs.exec hs decode_tickWord (exec_tick_after_one (fun he => Nat.le_trans (by omega) (h15 he))
      (fun he => Nat.le_trans (by omega) (h35 he)))
    obtain ⟨r, o, ho, hrun⟩ := ih (s := { s with
      tmr15 := s.tmr15.after 1, tmr35 := s.tmr35.after 1, bus := .noAccess, txOut := none,
      stimuli := List.replicate k 0x4000000000000000#64 ++ rest }) rfl
      (Timer.lt_count_after_one h15) (Timer.lt_count_after_one h35)
    refine ⟨r, o, fun _ => ho rfl, ?_⟩
    rw [Timer.after_after, Timer.after_after] at hrun
    have hall := hfirst.add hrun
    rwa [Nat.add_comm 1 k] at hall

/-- The last of `k + 1` pending TICKs, after the `k` that only count. -/
theorem Runs.last_tick {k : Nat} (h : Runs k s u) (hu : u.stimuli = 0x4000000000000000#64 :: rest)
    (hexec : Machine.exec .tick { u with stimuli := rest } = .next t) : Runs (k + 1) s t :=
  h.add (Runs.exec hu decode_tickWord hexec)

/-- Some of `n` pending words, and the others. -/
theorem replicate_split {k n : Nat} (h : k ≤ n) (w : StimulusWord) (rest : List StimulusWord) :
    List.replicate n w ++ rest = List.replicate k w ++ (List.replicate (n - k) w ++ rest) := by
  rw [← List.append_assoc, ← List.replicate_add, Nat.add_sub_cancel' h]

/-- A timer that has counted all but one of its timeout is at its last count. -/
theorem Timer.after_all_but_one {c : Half} (h : 1 ≤ c.toNat) :
    Timer.after ⟨true, c⟩ (c.toNat - 1) = ⟨true, 1#16⟩ := by
  rw [Timer.after_running]
  congr 1
  apply BitVec.eq_of_toNat_eq
  rw [toNat_sub_ofNat (by omega), BitVec.toNat_ofNat]
  omega

end Sys2Proof.Machine
end

section
/-! Silence in Init and after a frame (spec/41_timers.md R175; spec/42_receive.md R196, R198, R206). -/

namespace Sys2Proof.Machine

/-- With only `tmr35` running, fewer TICKs than its count leave it at the rest, and one TICK is pending for each. -/
theorem runs_ticks_tmr35 {s : State} {rest : List StimulusWord} {k n : Nat} {c : Half}
    (h15 : s.tmr15.enabled = false) (h35 : s.tmr35 = ⟨true, c⟩) (hk : k < c.toNat) (hkn : k ≤ n)
    (hs : s.stimuli = List.replicate n 0x4000000000000000#64 ++ rest) :
    ∃ (r : BusResponse) (o : Option Byte), (s.txOut = none → o = none) ∧
      Runs k s { s with
        tmr35 := ⟨true, c - BitVec.ofNat 16 k⟩, bus := r, txOut := o,
        stimuli := List.replicate (n - k) 0x4000000000000000#64 ++ rest } := by
  have hrun := runs_ticks k (hs.trans (replicate_split hkn _ rest))
    (fun he => Bool.noConfusion (h15.symm.trans he)) (fun _ => by rw [h35]; exact hk)
  rwa [Timer.after_of_disabled h15, h35, Timer.after_running] at hrun

/-- With only `tmr35` running, all but one of its counts leave it at 1, with one TICK pending. -/
theorem runs_ticks_to_one {s : State} {rest : List StimulusWord} {c : Half}
    (h15 : s.tmr15.enabled = false) (h35 : s.tmr35 = ⟨true, c⟩) (hc : 1 ≤ c.toNat)
    (hs : s.stimuli = List.replicate c.toNat 0x4000000000000000#64 ++ rest) :
    ∃ (r : BusResponse) (o : Option Byte),
      Runs (c.toNat - 1) s { s with
        tmr35 := ⟨true, 1#16⟩, bus := r, txOut := o, stimuli := 0x4000000000000000#64 :: rest } := by
  obtain ⟨r, o, -, hrun⟩ := runs_ticks_tmr35 h15 h35 (k := c.toNat - 1) (by omega) (Nat.sub_le ..) hs
  have hone : c.toNat - (c.toNat - 1) = 1 := by omega
  rw [hone, ← Timer.after_running, Timer.after_all_but_one hc] at hrun
  exact ⟨r, o, hrun⟩

/-- Settles O55: `tmr35` counts alone, and its last TICK is R198. -/
theorem initEndsOnTheTthTick : Obligations.InitEndsOnTheTthTick := by
  intro s rest hinit h15 h35 hpos hs
  constructor
  · intro k hk
    obtain ⟨r, o, -, hrun⟩ := runs_ticks_tmr35 h15 h35 hk (Nat.le_of_lt hk) hs
    exact ⟨_, hrun, hinit, rfl, toNat_sub_ofNat (Nat.le_of_lt hk)⟩
  · obtain ⟨r, o, hrun⟩ := runs_ticks_to_one h15 h35 hpos hs
    have hlast := hrun.last_tick rfl (longSilenceInInitLeadsToIdle _ hinit h15 rfl)
    rw [Nat.sub_add_cancel hpos] at hlast
    exact ⟨_, hlast, rfl, rfl, rfl⟩

/-- R196: the Wait that the `T15`-th TICK of silence leads to, with `T35 - T15` counts of `tmr35` left. -/
def State.waitAfterT15 (s : State) (l : List StimulusWord) : State :=
  { s with
    state := .wait, tmr15 := ⟨false, 0#16⟩, tmr35 := ⟨true, s.t35 - BitVec.ofNat 16 s.t15.toNat⟩, bus := .noAccess,
    txOut := none, stimuli := l }

/-- R175 with R196. -/
theorem runs_to_wait {s : State} {rest : List StimulusWord} (hrec : s.state = .reception)
    (h15 : s.tmr15 = ⟨true, s.t15⟩) (h35 : s.tmr35 = ⟨true, s.t35⟩) (hpos : 1 ≤ s.t15.toNat)
    (hlt : s.t15.toNat < s.t35.toNat)
    (hs : s.stimuli = List.replicate s.t35.toNat 0x4000000000000000#64 ++ rest) :
    Runs s.t15.toNat s
      (s.waitAfterT15 (List.replicate (s.t35.toNat - s.t15.toNat) 0x4000000000000000#64 ++ rest)) := by
  obtain ⟨r, o, -, hrun⟩ := runs_ticks (s.t15.toNat - 1)
    (hs.trans (replicate_split (k := s.t15.toNat - 1) (by omega) _ rest))
    (fun _ => by rw [h15]; exact Nat.sub_lt hpos Nat.one_pos)
    (fun _ => by rw [h35]; exact Nat.lt_of_le_of_lt (Nat.sub_le ..) hlt)
  have hpending : s.t35.toNat - (s.t15.toNat - 1) = s.t35.toNat - s.t15.toNat + 1 := by omega
  have hcount : Timer.after ⟨true, s.t35 - BitVec.ofNat 16 (s.t15.toNat - 1)⟩ 1 =
      ⟨true, s.t35 - BitVec.ofNat 16 s.t15.toNat⟩ := by
    rw [← Timer.after_running, Timer.after_after, Nat.sub_add_cancel hpos, Timer.after_running]
  rw [h15, Timer.after_all_but_one hpos, h35, Timer.after_running, hpending, List.replicate_succ] at hrun
  have htwo : 2 ≤ (s.t35 - BitVec.ofNat 16 (s.t15.toNat - 1)).toNat := by
    rw [toNat_sub_ofNat (by omega)]
    omega
  have hlast := hrun.last_tick rfl (shortSilenceInReceptionLeadsToWait _ hrec rfl rfl htwo)
  rw [Nat.sub_add_cancel hpos] at hlast
  rwa [State.waitAfterT15, ← hcount]

/-- Settles O56: both timers count to the last count of `tmr15`, then `tmr35` counts alone in Wait, and its last TICK is
R206. -/
theorem frameIsHeldAfterT35TicksOfSilence : Obligations.FrameIsHeldAfterT35TicksOfSilence := by
  intro s rest hrec hready habandon h15 h35 hpos hlt hs
  have hwait := runs_to_wait hrec h15 h35 hpos hlt hs
  have hleft : (s.t35 - BitVec.ofNat 16 s.t15.toNat).toNat = s.t35.toNat - s.t15.toNat :=
    toNat_sub_ofNat (Nat.le_of_lt hlt)
  refine ⟨fun k hk => ?_, fun k hlo hhi => ?_, ?_⟩
  · obtain ⟨r, o, -, hrun⟩ := runs_ticks k (hs.trans (replicate_split (k := k) (by omega) _ rest))
      (fun _ => by rw [h15]; exact hk) (fun _ => by rw [h35]; exact hk.trans hlt)
    exact ⟨_, hrun, hrec, rfl, rfl⟩
  · obtain ⟨r, o, -, hrun⟩ := runs_ticks_tmr35 (s := s.waitAfterT15 _) (k := k - s.t15.toNat)
      (n := s.t35.toNat - s.t15.toNat) rfl rfl (by omega) (by omega) rfl
    have hall := hwait.add hrun
    rw [Nat.add_sub_cancel' hlo] at hall
    exact ⟨_, hall, rfl, hready, rfl, rfl⟩
  · have hone : 1 ≤ (s.t35 - BitVec.ofNat 16 s.t15.toNat).toNat := by omega
    rw [← hleft] at hwait
    obtain ⟨r, o, hrun⟩ := runs_ticks_to_one (s := s.waitAfterT15 _) rfl rfl hone rfl
    have hlast := (hwait.add hrun).last_tick rfl (longSilenceInWaitCompletesTheFrame _ rfl habandon rfl rfl)
    have hsteps : s.t15.toNat + ((s.t35 - BitVec.ofNat 16 s.t15.toNat).toNat - 1) + 1 = s.t35.toNat := by omega
    rw [hsteps] at hlast
    exact ⟨_, hlast, rfl, rfl, rfl, rfl, rfl, rfl⟩

end Sys2Proof.Machine
end

section
/-! An emission from TX_START to the end of its turnaround (spec/43_transmit.md R231 to R236), and the order of a byte
and a TICK (spec/70_reset_and_hazards.md R348). -/

namespace Sys2Proof.Machine

theorem decode_txReadyWord : decode 0x5000000000000000#64 = .instr .txReady := txReadyDrainsThenTurnsAround.1

/-- R231: the emission that an accepted TX_START of `k` bytes starts. -/
def State.queued (s : State) (k : Len) (l : List StimulusWord) : State :=
  { s with
    rdRdy := false, crcOk := false, rxLen := 0, txLen := k, txCur := 0, txie := true, state := .emission,
    bus := .writeOk, txOut := none, stimuli := l }

/-- R233: the turnaround that begins when all `k` bytes have been sent. -/
def State.turning (s : State) (k : Len) (l : List StimulusWord) : State :=
  { s.queued k l with txCur := k, txie := false, tmr35 := ⟨true, s.t35⟩, bus := .noAccess }

variable {s : State} {rest : List StimulusWord}

/-- R232: `k + 1` TX_READYs while draining emit the bytes from the cursor on, the last of them at the end. -/
theorem runs_txReady (k : Nat) (hem : s.state = .emission) (htxie : s.txie = true)
    (hcur : s.txCur.val + k < s.txLen.val)
    (hs : s.stimuli = List.replicate (k + 1) 0x5000000000000000#64 ++ rest) :
    ∃ j : Len, j.val = s.txCur.val + k + 1 ∧
      Runs (k + 1) s { s with
        txCur := j, bus := .noAccess, txOut := some (s.tx.read (s.txCur.val + k)), stimuli := rest } := by
  induction k generalizing s with
  | zero =>
    obtain ⟨hdrain, -⟩ := txReadyDrainsThenTurnsAround.2 { s with stimuli := rest }
    obtain ⟨j, hj, hexec⟩ := hdrain hem htxie hcur
    exact ⟨j, hj, Runs.exec hs decode_txReadyWord hexec⟩
  | succ k ih =>
    obtain ⟨hdrain, -⟩ := txReadyDrainsThenTurnsAround.2
      { s with stimuli := List.replicate (k + 1) 0x5000000000000000#64 ++ rest }
    obtain ⟨i, hi, hexec⟩ := hdrain hem htxie (show s.txCur.val < s.txLen.val by omega)
    have hfirst := Runs.exec hs decode_txReadyWord hexec
    have hi' : i.val + k = s.txCur.val + (k + 1) := by rw [hi]; simp only; omega
    obtain ⟨j, hj, hrun⟩ := ih (s := { s with
      txCur := i, bus := .noAccess, txOut := some (s.tx.read s.txCur.val),
      stimuli := List.replicate (k + 1) 0x5000000000000000#64 ++ rest }) hem htxie
      (show i.val + k < s.txLen.val by omega) rfl
    have hall := hfirst.add hrun
    simp only [hi'] at hj hall
    rw [Nat.add_comm 1] at hall
    exact ⟨j, hj, hall⟩

/-- R231: the step at the word of an accepted TX_START. -/
theorem runs_txStart {n : Nat} (hwait : s.state = .wait) (hready : s.rdRdy = true) (hlo : 1 ≤ n) (hhi : n ≤ 256)
    (hs : s.stimuli = encode (.cmdTxStart n) :: rest) : Runs 1 s (s.queued (Len.ofCount n) rest) := by
  have hword : decode (encode (.cmdTxStart n)) = .instr (.cmdTxStart n) :=
    decodeOfEncodeIsTheInstruction _ (decide_eq_true (by omega))
  have hexec := execCmdTxStart_of_legal (s := { s with stimuli := rest }) ⟨hwait, hready, hlo, hhi⟩
  exact Runs.exec hs hword hexec

/-- R232: the first `k + 1` TX_READYs after TX_START emit `tx[0]` to `tx[k]`, the last of them at the end. -/
theorem runs_emitted {n k : Nat} (hhi : n ≤ 256) (hk : k < n) :
    ∃ j : Len, j.val = k + 1 ∧
      Runs (k + 1) (s.queued (Len.ofCount n) (List.replicate (n + 1) 0x5000000000000000#64 ++ rest))
        { s.queued (Len.ofCount n) (List.replicate (n + 1 - (k + 1)) 0x5000000000000000#64 ++ rest) with
          txCur := j, bus := .noAccess, txOut := some (s.tx.read k) } := by
  have hlen : (0 : Nat) + k < (Len.ofCount n).val := by rw [Len.val_ofCount hhi]; omega
  obtain ⟨j, hj, hrun⟩ := runs_txReady (s := s.queued (Len.ofCount n) _) k rfl rfl hlen
    (replicate_split (k := k + 1) (n := n + 1) (by omega) _ rest)
  have hzero : (s.queued (Len.ofCount n) (List.replicate (n + 1) 0x5000000000000000#64 ++ rest)).txCur.val + k = k :=
    Nat.zero_add k
  rw [hzero] at hj hrun
  exact ⟨j, hj, hrun⟩

/-- R232, R233: `n + 1` TX_READYs after TX_START emit the response and start the turnaround. -/
theorem runs_to_turnaround {n : Nat} (hlo : 1 ≤ n) (hhi : n ≤ 256) :
    Runs (n + 1) (s.queued (Len.ofCount n) (List.replicate (n + 1) 0x5000000000000000#64 ++ rest))
      (s.turning (Len.ofCount n) rest) := by
  obtain ⟨j, hj, hrun⟩ := runs_emitted (s := s) (rest := rest) (k := n - 1) hhi (by omega)
  have hn : n - 1 + 1 = n := Nat.sub_add_cancel hlo
  have hone : n + 1 - n = 1 := by omega
  rw [hn, hone] at hrun
  have hend : j = Len.ofCount n := Fin.ext (by rw [hj, hn, Len.val_ofCount hhi])
  subst hend
  obtain ⟨-, hdrained, -⟩ := txReadyDrainsThenTurnsAround.2 { s.queued (Len.ofCount n) rest with
    txCur := Len.ofCount n, bus := .noAccess, txOut := some (s.tx.read (n - 1)) }
  exact hrun.add (Runs.exec rfl decode_txReadyWord (hdrained rfl rfl (Nat.le_refl _)))

/-- Settles O57: TX_START queues, the TX_READYs drain and turn around, the TICKs count `tmr35`, and the last of them is
R234. -/
theorem emissionPutsExactlyTheResponseOnTheLine : Obligations.EmissionPutsExactlyTheResponseOnTheLine := by
  intro s n rest hwait hready hlo hhi h15 h35 hpos hs
  rw [List.append_assoc] at hs
  have hstart := runs_txStart hwait hready hlo hhi hs
  have hturn := hstart.add (runs_to_turnaround hlo hhi)
  rw [show 1 + (n + 1) = n + 2 by omega] at hturn
  refine ⟨⟨_, hstart, rfl, rfl⟩, fun k hk => ?_, fun k hk => ?_, ?_⟩
  · obtain ⟨j, hj, hrun⟩ := runs_emitted (s := s) hhi hk
    have hall := hstart.add hrun
    rw [show 1 + (k + 1) = k + 2 by omega] at hall
    exact ⟨_, hall, rfl, hj, rfl⟩
  · obtain ⟨r, o, ho, hrun⟩ := runs_ticks_tmr35 (s := s.turning (Len.ofCount n) _) h15 rfl hk (Nat.le_of_lt hk) rfl
    exact ⟨_, hturn.add hrun, ho rfl, rfl, rfl, rfl, toNat_sub_ofNat (Nat.le_of_lt hk)⟩
  · obtain ⟨r, o, hrun⟩ := runs_ticks_to_one (s := s.turning (Len.ofCount n) _) h15 rfl hpos rfl
    have hlast := (hturn.add hrun).last_tick rfl (longSilenceEndsTheEmission _ rfl h15 rfl)
    rw [show n + 2 + (s.t35.toNat - 1) + 1 = n + 2 + s.t35.toNat by omega] at hlast
    exact ⟨_, hlast, rfl, rfl, rfl, Len.val_ofCount hhi, Len.val_ofCount hhi, rfl, rfl, rfl⟩

/-- Settles O58: the two steps in each order, by evaluation of the rules they run. -/
theorem orderOfByteAndTickMatters : Obligations.OrderOfByteAndTickMatters := by
  have hbyte : decode 0x3000000000000003#64 = .instr (.rxByte 0x03#8) := by decide
  refine ⟨_, _, (Runs.exec rfl hbyte rfl).add (Runs.exec rfl decode_tickWord rfl),
    (Runs.exec rfl decode_tickWord rfl).add (Runs.exec rfl hbyte rfl), ?_⟩
  decide

end Sys2Proof.Machine
end
